-- ==== Sys2Proof/Word.lean ====
section
/-! DEFINITION. The word types of the LCD pixel pipeline (spec/00_scope.md R5). -/

namespace Sys2Proof

/-- One byte: a register or a memory cell (R5). -/
abbrev Byte := BitVec 8

/-- A 16-bit bus address (20_memory.md R70). -/
abbrev Addr := BitVec 16

/-- The 32-bit event word (30_encoding.md R100). -/
abbrev EventWord := BitVec 32

/-- A cell of the framebuffer: a shade 0 to 3, or a 15-bit RGB word (10_state.md R44). -/
abbrev Color15 := BitVec 15

/-- A 2-bit color index (30_encoding.md R104). -/
abbrev ColorIndex := BitVec 2

end Sys2Proof
end

