-- ==== Sys2Proof/Config.lean ====
section
/-! DEFINITION. What an instantiation of the block fixes: the constants and parameters of spec/00_scope.md R4, and the
free values for contents the spec leaves unspecified (10_state.md R50). -/

namespace Sys2Proof

/-- `OAM_TIE_BREAK` (R4, R183): which of two sprites with equal screen-X comes first in the monochrome line list. -/
inductive TieBreak where
  | lowerIndexFirst
  | higherIndexFirst
  deriving DecidableEq, Repr, Inhabited

/-- The parameters of R4 that are not constants of the spec. They are fixed during a run: no event changes them. -/
structure Parameters where
  /-- `CGB_MODE`: false = monochrome, true = color mode. -/
  cgbMode : Bool
  /-- `DOUBLE_SPEED`: read only by the general VRAM DMA counter (R242). -/
  doubleSpeed : Bool
  /-- `STAT_OAM_IRQ`: whether OAM_SEARCH entry can raise the STAT interrupt by STAT bit 5 (R132, R335). -/
  statOamIrq : Bool
  /-- `OAM_TIE_BREAK`: OPEN (R183). -/
  oamTieBreak : TieBreak
  deriving DecidableEq, Repr

/-- The byte memories of the block (R49, R70): the collaborator's bytes, the two banks of video memory,
object-attribute memory and the two palette memories. -/
inductive Space where
  | ext
  | vram0
  | vram1
  | oam
  | bgpal
  | objpal
  deriving DecidableEq, Repr

namespace Config

/-- `SCREEN_W` (R4). -/
@[simp] abbrev screenW : Nat := 160
/-- `LINE_DOTS` (R4). -/
@[simp] abbrev lineDots : Nat := 456
/-- `OAM_SEARCH_DOTS` (R4). -/
@[simp] abbrev oamSearchDots : Nat := 80
/-- `DRAW_NOMINAL` (R4). -/
@[simp] abbrev drawNominal : Nat := 172
/-- `HBLANK_NOMINAL` (R4). -/
@[simp] abbrev hblankNominal : Nat := 204
/-- `SCREEN_H` (R4): the number of visible lines. -/
@[simp] abbrev screenH : Nat := 144
/-- `VBLANK_DOTS` (R4). -/
@[simp] abbrev vblankDots : Nat := 4560
/-- `MAX_LINE_SPRITES` (R4). -/
@[simp] abbrev maxLineSprites : Nat := 10
/-- `SPRITE_Q_MAX` (R4). -/
@[simp] abbrev spriteQMax : Nat := 8
/-- `BG_Q_POP_MIN` (R4): the Mixer pops only while the background queue holds more than this. -/
@[simp] abbrev bgQPopMin : Nat := 8
/-- `OAM_DMA_DOTS` (R4). -/
@[simp] abbrev oamDmaDots : Nat := 640
/-- `OAM_DMA_LEN` (R4). -/
@[simp] abbrev oamDmaLen : Nat := 160
/-- `VDMA_BLOCK` (R4). -/
@[simp] abbrev vdmaBlock : Nat := 16
/-- `VDMA_BLOCK_THRESHOLD` (R4). -/
@[simp] abbrev vdmaBlockThreshold : Nat := 64
/-- The dots OAM_SEARCH leaves to DRAW and H_BLANK, 456 - 80; DRAW must end before this many (R135, R142). -/
@[simp] abbrev drawHblankDots : Nat := 376

/-- FREE VALUE: what a byte of a memory holds after reset and until something writes it. The spec leaves it
unspecified, "arbitrary, universally quantified" and "never ... zero" (R50, R73). It has no body (log entry 4). -/
opaque initByte : Space → Nat → Byte

/-- FREE VALUE: what a framebuffer cell holds after reset and until the Mixer writes it (R44, R50; log entry 4). -/
opaque initCell : Nat → Color15

/-- OPEN: the tie-break of the machine that `State.reset` describes (R183, D33; log entry 3). It has no body. -/
opaque oamTieBreak : TieBreak

/-- The parameters of the machine that `State.reset` describes. DESIGN CHOICE (log entries 2 and 3): monochrome at normal
speed without the OAM_SEARCH interrupt, the convention of 95_test_vectors.md, and the open tie-break. -/
def parameters : Parameters :=
  { cgbMode := false, doubleSpeed := false, statOamIrq := false, oamTieBreak := oamTieBreak }

end Config

end Sys2Proof
end

