-- ==== Sys2Proof/Syntax.lean ====
section
/-! DEFINITION. The events the block accepts, one constructor for each row of spec/opcode_table.json (30_encoding.md R101,
R102), and the bus targets an address selects. -/

namespace Sys2Proof

/-- What a bus address selects: a register of 10_state.md R20, video memory, object-attribute memory, or the bus
collaborator (30_encoding.md R102, 20_memory.md R72). -/
inductive Port where
  | lcdc
  | stat
  | scy
  | scx
  | ly
  | lyc
  | dma
  | bgp
  | obp0
  | obp1
  | wy
  | wx
  | vbk
  | hdma1
  | hdma2
  | hdma3
  | hdma4
  | hdma5
  | bcps
  | bcpd
  | ocps
  | ocpd
  | vram
  | oam
  | mem
  deriving DecidableEq, Repr

/-- An event (R100, R102). `RD` of a register has no free operand, `WR` of a register has the byte written; the memory rows
also keep the bus address. -/
inductive Instr where
  /-- `TICK`: one dot (R130). -/
  | tick
  /-- `RD.LCDC` at 0xFF40 (R260). -/
  | rdLcdc
  /-- `WR.LCDC` at 0xFF40 (R261). -/
  | wrLcdc (d : Byte)
  /-- `RD.STAT` at 0xFF41 (R262). -/
  | rdStat
  /-- `WR.STAT` at 0xFF41 (R263). -/
  | wrStat (d : Byte)
  /-- `RD.SCY` at 0xFF42 (R264). -/
  | rdScy
  /-- `WR.SCY` at 0xFF42 (R265). -/
  | wrScy (d : Byte)
  /-- `RD.SCX` at 0xFF43 (R266). -/
  | rdScx
  /-- `WR.SCX` at 0xFF43 (R267). -/
  | wrScx (d : Byte)
  /-- `RD.LY` at 0xFF44 (R268). -/
  | rdLy
  /-- `WR.LY` at 0xFF44 (R269). -/
  | wrLy (d : Byte)
  /-- `RD.LYC` at 0xFF45 (R270). -/
  | rdLyc
  /-- `WR.LYC` at 0xFF45 (R271). -/
  | wrLyc (d : Byte)
  /-- `RD.DMA` at 0xFF46 (R272). -/
  | rdDma
  /-- `WR.DMA` at 0xFF46 (R273). -/
  | wrDma (d : Byte)
  /-- `RD.BGP` at 0xFF47 (R274). -/
  | rdBgp
  /-- `WR.BGP` at 0xFF47 (R275). -/
  | wrBgp (d : Byte)
  /-- `RD.OBP0` at 0xFF48 (R276). -/
  | rdObp0
  /-- `WR.OBP0` at 0xFF48 (R277). -/
  | wrObp0 (d : Byte)
  /-- `RD.OBP1` at 0xFF49 (R278). -/
  | rdObp1
  /-- `WR.OBP1` at 0xFF49 (R279). -/
  | wrObp1 (d : Byte)
  /-- `RD.WY` at 0xFF4A (R280). -/
  | rdWy
  /-- `WR.WY` at 0xFF4A (R281). -/
  | wrWy (d : Byte)
  /-- `RD.WX` at 0xFF4B (R282). -/
  | rdWx
  /-- `WR.WX` at 0xFF4B (R283). -/
  | wrWx (d : Byte)
  /-- `RD.VBK` at 0xFF4F (R284). -/
  | rdVbk
  /-- `WR.VBK` at 0xFF4F (R285). -/
  | wrVbk (d : Byte)
  /-- `RD.HDMA1` at 0xFF51 (R286). -/
  | rdHdma1
  /-- `WR.HDMA1` at 0xFF51 (R287). -/
  | wrHdma1 (d : Byte)
  /-- `RD.HDMA2` at 0xFF52 (R288). -/
  | rdHdma2
  /-- `WR.HDMA2` at 0xFF52 (R289). -/
  | wrHdma2 (d : Byte)
  /-- `RD.HDMA3` at 0xFF53 (R290). -/
  | rdHdma3
  /-- `WR.HDMA3` at 0xFF53 (R291). -/
  | wrHdma3 (d : Byte)
  /-- `RD.HDMA4` at 0xFF54 (R292). -/
  | rdHdma4
  /-- `WR.HDMA4` at 0xFF54 (R293). -/
  | wrHdma4 (d : Byte)
  /-- `RD.HDMA5` at 0xFF55 (R294). -/
  | rdHdma5
  /-- `WR.HDMA5` at 0xFF55 (R295). -/
  | wrHdma5 (d : Byte)
  /-- `RD.BCPS` at 0xFF68 (R296). -/
  | rdBcps
  /-- `WR.BCPS` at 0xFF68 (R297). -/
  | wrBcps (d : Byte)
  /-- `RD.BCPD` at 0xFF69 (R298). -/
  | rdBcpd
  /-- `WR.BCPD` at 0xFF69 (R299). -/
  | wrBcpd (d : Byte)
  /-- `RD.OCPS` at 0xFF6A (R300). -/
  | rdOcps
  /-- `WR.OCPS` at 0xFF6A (R301). -/
  | wrOcps (d : Byte)
  /-- `RD.OCPD` at 0xFF6B (R302). -/
  | rdOcpd
  /-- `WR.OCPD` at 0xFF6B (R303). -/
  | wrOcpd (d : Byte)
  /-- `RD.VRAM` at 0x8000 to 0x9FFF (R304). -/
  | rdVram (a : Addr)
  /-- `WR.VRAM` at 0x8000 to 0x9FFF (R305). -/
  | wrVram (a : Addr) (d : Byte)
  /-- `RD.OAM` at 0xFE00 to 0xFE9F (R306). -/
  | rdOam (a : Addr)
  /-- `WR.OAM` at 0xFE00 to 0xFE9F (R307). -/
  | wrOam (a : Addr) (d : Byte)
  /-- `RD.MEM` at any other address (R308). -/
  | rdMem (a : Addr)
  /-- `WR.MEM` at any other address (R309). -/
  | wrMem (a : Addr) (d : Byte)
  deriving DecidableEq, Repr

end Sys2Proof
end

