-- ==== Sys2Proof/WellFormed.lean ====
section
/-! DEFINITION. When an event is well-formed: its address operand lies in the range of its row (30_encoding.md R102). -/

namespace Sys2Proof

/-- The addresses of the block's registers (10_state.md R20). -/
def registerAddresses : List Addr :=
  [0xFF40#16, 0xFF41#16, 0xFF42#16, 0xFF43#16, 0xFF44#16, 0xFF45#16, 0xFF46#16, 0xFF47#16, 0xFF48#16, 0xFF49#16, 0xFF4A#16, 0xFF4B#16, 0xFF4F#16, 0xFF51#16, 0xFF52#16, 0xFF53#16, 0xFF54#16, 0xFF55#16, 0xFF68#16, 0xFF69#16, 0xFF6A#16, 0xFF6B#16]

/-- 0x8000 to 0x9FFF (R102). -/
def Addr.isVram (a : Addr) : Bool := decide (0x8000 ≤ a.toNat ∧ a.toNat ≤ 0x9FFF)

/-- 0xFE00 to 0xFE9F (R102). -/
def Addr.isOam (a : Addr) : Bool := decide (0xFE00 ≤ a.toNat ∧ a.toNat ≤ 0xFE9F)

/-- An address that R102 gives to the bus collaborator: no earlier row of the map matches it. -/
def Addr.isMem (a : Addr) : Bool := !(registerAddresses.contains a) && !a.isVram && !a.isOam

/-- The address operand of each memory row lies in that row's range (R102). The other rows have no address operand and
every value of their data byte is legal (R103). -/
def Instr.wf : Instr → Bool
  | .rdVram a | .wrVram a _ => Addr.isVram a
  | .rdOam a | .wrOam a _ => Addr.isOam a
  | .rdMem a | .wrMem a _ => Addr.isMem a
  | .tick => true
  | .rdLcdc | .rdStat | .rdScy | .rdScx | .rdLy | .rdLyc | .rdDma | .rdBgp | .rdObp0 | .rdObp1 | .rdWy | .rdWx | .rdVbk | .rdHdma1 | .rdHdma2 | .rdHdma3 | .rdHdma4 | .rdHdma5 | .rdBcps | .rdBcpd | .rdOcps | .rdOcpd => true
  | .wrLcdc _ | .wrStat _ | .wrScy _ | .wrScx _ | .wrLy _ | .wrLyc _ | .wrDma _ | .wrBgp _ | .wrObp0 _ | .wrObp1 _ | .wrWy _ | .wrWx _ | .wrVbk _ | .wrHdma1 _ | .wrHdma2 _ | .wrHdma3 _ | .wrHdma4 _ | .wrHdma5 _ | .wrBcps _ | .wrBcpd _ | .wrOcps _ | .wrOcpd _ => true

end Sys2Proof
end

