-- ==== Sys2Proof/Decode.lean ====
section
/-! DEFINITION. Decoding and encoding of event words (spec/30_encoding.md R100 to R103), and the pseudo-instructions of the
trace assembly (R115). -/

namespace Sys2Proof

/-- Why a word spells no event (30_encoding.md R103). -/
inductive DecodeRefusal where
  /-- `kind` = 11. -/
  | reservedKind
  /-- the field `zero` is not 0. -/
  | nonzeroZeroField
  /-- a `TICK` whose `addr` or `data` is not 0. -/
  | tickWithOperand
  /-- a `RD` whose `data` is not 0. -/
  | readWithData
  deriving DecidableEq, Repr

/-- The field `kind`, bits 31:30 (R100). -/
def kindField (w : EventWord) : BitVec 2 := w.extractLsb' 30 2
/-- The field `zero`, bits 29:24 (R100). -/
def zeroField (w : EventWord) : BitVec 6 := w.extractLsb' 24 6
/-- The field `addr`, bits 23:8 (R100). -/
def addrField (w : EventWord) : Addr := w.extractLsb' 8 16
/-- The field `data`, bits 7:0 (R100). -/
def dataField (w : EventWord) : Byte := w.extractLsb' 0 8

/-- `addr[15:13]` = 100 (R102). -/
def selectsVram (a : Addr) : Bool := a.extractLsb' 13 3 == 0b100#3

/-- `addr[15:8]` = 0xFE and `addr[7:0]` < 0xA0 (R102). -/
def selectsOam (a : Addr) : Bool := a.extractLsb' 8 8 == 0xFE#8 && decide ((a.extractLsb' 0 8).toNat < 0xA0)

/-- The address map, first match (R102). The bus contract dispatches by the same map (20_memory.md R72). -/
def busTarget (a : Addr) : Port :=
  if a = 0xFF40#16 then .lcdc
  else if a = 0xFF41#16 then .stat
  else if a = 0xFF42#16 then .scy
  else if a = 0xFF43#16 then .scx
  else if a = 0xFF44#16 then .ly
  else if a = 0xFF45#16 then .lyc
  else if a = 0xFF46#16 then .dma
  else if a = 0xFF47#16 then .bgp
  else if a = 0xFF48#16 then .obp0
  else if a = 0xFF49#16 then .obp1
  else if a = 0xFF4A#16 then .wy
  else if a = 0xFF4B#16 then .wx
  else if a = 0xFF4F#16 then .vbk
  else if a = 0xFF51#16 then .hdma1
  else if a = 0xFF52#16 then .hdma2
  else if a = 0xFF53#16 then .hdma3
  else if a = 0xFF54#16 then .hdma4
  else if a = 0xFF55#16 then .hdma5
  else if a = 0xFF68#16 then .bcps
  else if a = 0xFF69#16 then .bcpd
  else if a = 0xFF6A#16 then .ocps
  else if a = 0xFF6B#16 then .ocpd
  else if selectsVram a then .vram
  else if selectsOam a then .oam
  else .mem

/-- The `RD` event of a bus target (R101). -/
def readEvent (p : Port) (a : Addr) : Instr :=
  match p with
  | .lcdc => .rdLcdc
  | .stat => .rdStat
  | .scy => .rdScy
  | .scx => .rdScx
  | .ly => .rdLy
  | .lyc => .rdLyc
  | .dma => .rdDma
  | .bgp => .rdBgp
  | .obp0 => .rdObp0
  | .obp1 => .rdObp1
  | .wy => .rdWy
  | .wx => .rdWx
  | .vbk => .rdVbk
  | .hdma1 => .rdHdma1
  | .hdma2 => .rdHdma2
  | .hdma3 => .rdHdma3
  | .hdma4 => .rdHdma4
  | .hdma5 => .rdHdma5
  | .bcps => .rdBcps
  | .bcpd => .rdBcpd
  | .ocps => .rdOcps
  | .ocpd => .rdOcpd
  | .vram => .rdVram a
  | .oam => .rdOam a
  | .mem => .rdMem a

/-- The `WR` event of a bus target (R101). -/
def writeEvent (p : Port) (a : Addr) (d : Byte) : Instr :=
  match p with
  | .lcdc => .wrLcdc d
  | .stat => .wrStat d
  | .scy => .wrScy d
  | .scx => .wrScx d
  | .ly => .wrLy d
  | .lyc => .wrLyc d
  | .dma => .wrDma d
  | .bgp => .wrBgp d
  | .obp0 => .wrObp0 d
  | .obp1 => .wrObp1 d
  | .wy => .wrWy d
  | .wx => .wrWx d
  | .vbk => .wrVbk d
  | .hdma1 => .wrHdma1 d
  | .hdma2 => .wrHdma2 d
  | .hdma3 => .wrHdma3 d
  | .hdma4 => .wrHdma4 d
  | .hdma5 => .wrHdma5 d
  | .bcps => .wrBcps d
  | .bcpd => .wrBcpd d
  | .ocps => .wrOcps d
  | .ocpd => .wrOcpd d
  | .vram => .wrVram a d
  | .oam => .wrOam a d
  | .mem => .wrMem a d

/-- Decode an event word (R101, R103). Total: a word that spells no event is refused by name. -/
def decode (w : EventWord) : Except DecodeRefusal Instr :=
  if kindField w = 0b11#2 then .error .reservedKind
  else if zeroField w ≠ 0#6 then .error .nonzeroZeroField
  else if kindField w = 0b00#2 then
    if addrField w ≠ 0#16 ∨ dataField w ≠ 0#8 then .error .tickWithOperand else .ok .tick
  else if kindField w = 0b01#2 then
    if dataField w ≠ 0#8 then .error .readWithData else .ok (readEvent (busTarget (addrField w)) (addrField w))
  else .ok (writeEvent (busTarget (addrField w)) (addrField w) (dataField w))

/-- Lay out the four fields of an event word (R100). -/
def eventWord (kind : BitVec 2) (a : Addr) (d : Byte) : EventWord := kind ++ 0#6 ++ a ++ d

/-- `RD a` = 0x40000000 | a << 8 (R100). -/
def readWord (a : Addr) : EventWord := eventWord 0b01#2 a 0#8
/-- `WR a, d` = 0x80000000 | a << 8 | d (R100). -/
def writeWord (a : Addr) (d : Byte) : EventWord := eventWord 0b10#2 a d

/-- The word of an event (R100, R102). -/
def encode : Instr → EventWord
  | .tick => eventWord 0b00#2 0#16 0#8
  | .rdLcdc => readWord 0xFF40#16
  | .wrLcdc d => writeWord 0xFF40#16 d
  | .rdStat => readWord 0xFF41#16
  | .wrStat d => writeWord 0xFF41#16 d
  | .rdScy => readWord 0xFF42#16
  | .wrScy d => writeWord 0xFF42#16 d
  | .rdScx => readWord 0xFF43#16
  | .wrScx d => writeWord 0xFF43#16 d
  | .rdLy => readWord 0xFF44#16
  | .wrLy d => writeWord 0xFF44#16 d
  | .rdLyc => readWord 0xFF45#16
  | .wrLyc d => writeWord 0xFF45#16 d
  | .rdDma => readWord 0xFF46#16
  | .wrDma d => writeWord 0xFF46#16 d
  | .rdBgp => readWord 0xFF47#16
  | .wrBgp d => writeWord 0xFF47#16 d
  | .rdObp0 => readWord 0xFF48#16
  | .wrObp0 d => writeWord 0xFF48#16 d
  | .rdObp1 => readWord 0xFF49#16
  | .wrObp1 d => writeWord 0xFF49#16 d
  | .rdWy => readWord 0xFF4A#16
  | .wrWy d => writeWord 0xFF4A#16 d
  | .rdWx => readWord 0xFF4B#16
  | .wrWx d => writeWord 0xFF4B#16 d
  | .rdVbk => readWord 0xFF4F#16
  | .wrVbk d => writeWord 0xFF4F#16 d
  | .rdHdma1 => readWord 0xFF51#16
  | .wrHdma1 d => writeWord 0xFF51#16 d
  | .rdHdma2 => readWord 0xFF52#16
  | .wrHdma2 d => writeWord 0xFF52#16 d
  | .rdHdma3 => readWord 0xFF53#16
  | .wrHdma3 d => writeWord 0xFF53#16 d
  | .rdHdma4 => readWord 0xFF54#16
  | .wrHdma4 d => writeWord 0xFF54#16 d
  | .rdHdma5 => readWord 0xFF55#16
  | .wrHdma5 d => writeWord 0xFF55#16 d
  | .rdBcps => readWord 0xFF68#16
  | .wrBcps d => writeWord 0xFF68#16 d
  | .rdBcpd => readWord 0xFF69#16
  | .wrBcpd d => writeWord 0xFF69#16 d
  | .rdOcps => readWord 0xFF6A#16
  | .wrOcps d => writeWord 0xFF6A#16 d
  | .rdOcpd => readWord 0xFF6B#16
  | .wrOcpd d => writeWord 0xFF6B#16 d
  | .rdVram a | .rdOam a | .rdMem a => readWord a
  | .wrVram a d | .wrOam a d | .wrMem a d => writeWord a d

/-- The event my decoder reads from the low `nbits` bits of `w`, higher bits 0; every row of the table has 32 bits. -/
def decodeTableWord (nbits w : Nat) : Option Instr :=
  if w % 2 ^ nbits < 2 ^ 32 then (decode (BitVec.ofNat 32 (w % 2 ^ nbits))).toOption else none

/-- `TICKS n` (R115). -/
def ticksTrace (n : Nat) : List EventWord := List.replicate n (encode .tick)
/-- `LINE` (R115). -/
def lineTrace : List EventWord := ticksTrace 456
/-- `FRAME` (R115). -/
def frameTrace : List EventWord := ticksTrace 70224
/-- `WRS a, v0 v1 ...` (R115): one `WR` for each byte, at ascending addresses. -/
def writesTrace (a : Addr) : List Byte → List EventWord
  | [] => []
  | v :: vs => writeWord a v :: writesTrace (a + 1#16) vs
/-- `FILL a, n, v` (R115). -/
def fillTrace (a : Addr) (n : Nat) (v : Byte) : List EventWord := writesTrace a (List.replicate n v)

end Sys2Proof
end

