-- ==== Sys2Proof/Machine/State.lean ====
section
/-! DEFINITION. The state of the LCD pixel pipeline as plain data (spec/10_state.md), its reset value (R50), and the reasons a
step can stop (60_exceptions.md R331). -/

namespace Sys2Proof.Machine

/-- `LcdMode` (R34). -/
inductive LcdMode where
  | oamSearch
  | draw
  | hBlank
  | vBlank
  deriving DecidableEq, Repr

/-- `FetchStage` (R37). -/
inductive FetchStage where
  | getTile
  | getTileDataLow
  | getTileDataHigh
  | sleep
  | push
  deriving DecidableEq, Repr

/-- `sp_stage` (R41): 0 = `idle`, 1 to 5 the dot-consuming stages, 6 = pixel delivery. -/
inductive SpriteStage where
  | idle
  | stage1
  | stage2
  | stage3
  | stage4
  | stage5
  | stage6
  deriving DecidableEq, Repr

/-- `vdma_mode` (R47). -/
inductive VdmaMode where
  | idle
  | general
  | hblank
  deriving DecidableEq, Repr

/-- A queued pixel (R38). -/
structure Pixel where
  color : ColorIndex
  pal : BitVec 3
  isSprite : Bool
  bgOverObj : Bool
  bgToOam : Bool
  key : Nat
  deriving DecidableEq, Repr

/-- The constant `TRANSPARENT` (R38). -/
def Pixel.transparent : Pixel :=
  { color := 0#2, pal := 0#3, isSprite := true, bgOverObj := false, bgToOam := false, key := 255 }

/-- An entry of `line_sprites` (R40): OAM index, clamped screen-X, and whether it has been processed on this line. -/
structure LineSprite where
  idx : Nat
  sx : Nat
  done : Bool
  deriving DecidableEq, Repr

/-- A sparse memory: pairs of address and contents. An address that is not listed has not been written since reset. -/
abbrev Memory (α : Type) := List (Nat × α)

/-- The canonical form: addresses strictly rising. An unlisted address reads as "not written", which no entry equals
(log entry 4), so equal memories are equal data. -/
abbrev Memory.wf {α : Type} (m : Memory α) : Prop := m.Pairwise (fun p q => p.1 < q.1)

/-- The stored registers of R20 to R33. STAT keeps its four enable bits `{lyc_ie, oam_ie, vblank_ie, hblank_ie}` (R22). -/
structure Regs where
  lcdc : Byte
  statIe : BitVec 4
  scy : Byte
  scx : Byte
  lyc : Byte
  dma : Byte
  bgp : Byte
  obp0 : Byte
  obp1 : Byte
  wy : Byte
  wx : Byte
  vbk : BitVec 1
  hdma1 : Byte
  hdma2 : Byte
  hdma3 : Byte
  hdma4 : Byte
  bcpsIdx : BitVec 6
  bcpsInc : Bool
  ocpsIdx : BitVec 6
  ocpsInc : Bool
  deriving DecidableEq, Repr

/-- The Scanline/Mode Controller (R34) with its flags and the window line counter (R36). -/
structure Controller where
  mode : LcdMode
  modeDot : Nat
  ly : Byte
  drawLen : Nat
  hblankLen : Nat
  coin : Bool
  wyTrigger : Bool
  wxTrigger : Bool
  hblankCopied : Bool
  winLine : Byte
  deriving DecidableEq, Repr

/-- The Background/Window Fetcher (R37), its flags (R36) and its queue `bgq` (R39). -/
structure BgFetcher where
  stage : FetchStage
  stageDot : Nat
  fetchX : Nat
  stall : Nat
  tileIdx : Byte
  tileAttr : Byte
  tileBytes : List Byte
  inWindow : Bool
  suspended : Bool
  discardPending : Bool
  queue : List Pixel
  deriving DecidableEq, Repr

/-- The Sprite Fetcher (R41), the sprites of the line (R40), `sp_extra_done` (R36) and the queue `spq` (R42). -/
structure SpriteFetcher where
  line : List LineSprite
  stage : SpriteStage
  cur : Nat
  pre : Nat
  s1Dots : Nat
  s3Dots : Nat
  extraDone : Bool
  queue : List Pixel
  deriving DecidableEq, Repr

/-- The OAM DMA Engine (R46). -/
structure OamDma where
  active : Bool
  src : Addr
  dots : Nat
  deriving DecidableEq, Repr

/-- The VRAM DMA Engine (R47); `len` is `hdma5_len`. -/
structure VramDma where
  mode : VdmaMode
  src : Addr
  dst : Addr
  blocks : Nat
  dots : Nat
  threshold : Nat
  len : BitVec 7
  deriving DecidableEq, Repr

/-- The memories of R49. Keys: bus addresses for `ext`, `vram0`, `vram1`; 0 to 0x9F for `oam`; 0 to 63 for the palettes;
`160 * line + column` for `fb` (R44). -/
structure Memories where
  ext : Memory Byte
  vram0 : Memory Byte
  vram1 : Memory Byte
  oam : Memory Byte
  bgpal : Memory Byte
  objpal : Memory Byte
  fb : Memory Color15
  deriving DecidableEq, Repr

/-- The set of signals an event raised (R45). -/
structure Signals where
  vblankIrq : Bool
  statIrq : Bool
  frameReady : Bool
  deriving DecidableEq, Repr

/-- The empty signal set. -/
def Signals.none : Signals := { vblankIrq := false, statIrq := false, frameReady := false }

/-- What the last event answered: its signal set, and the byte if it was a `RD` (R8, R45; log entry 5). -/
structure Output where
  signals : Signals
  data : Option Byte
  deriving DecidableEq, Repr

/-- No answer. -/
def Output.none : Output := { signals := Signals.none, data := Option.none }

/-- The monotone counters of R45; no rule reads them. -/
structure Counters where
  vblankIrq : Nat
  statIrq : Nat
  frameReady : Nat
  deriving DecidableEq, Repr

/-- The state of the machine: parameters (R4), registers, controller, fetchers, horizontal cursor `lx` (R43), DMA engines,
memories, outputs, and the host's pending event words (R7; log entry 1). -/
structure State where
  cfg : Parameters
  reg : Regs
  ctl : Controller
  bg : BgFetcher
  sp : SpriteFetcher
  lx : Nat
  odma : OamDma
  vdma : VramDma
  mem : Memories
  out : Output
  cnt : Counters
  events : List EventWord
  deriving DecidableEq, Repr

/-- The one fault of the model. -/
inductive Fault where
  /-- Raised by `TICK` when DRAW would begin its 376th dot (40_mode_controller.md R142, 60_exceptions.md R331). Safe: the
  model stops where the spec gives no successor. -/
  | drawOverrun
  deriving DecidableEq, Repr

/-- Why a step has no meaning. -/
inductive Refusal where
  /-- An instruction that has no meaning yet, by its mnemonic; raised by no arm. Safe. -/
  | notModelled (mnemonic : String)
  /-- Raised by `step` for a word that spells no event (30_encoding.md R103). Safe: the event does not happen, and
  the words pending behind it are not run (log entry 18). -/
  | notAnEvent (why : DecodeRefusal)
  deriving DecidableEq, Repr

/-- The registers after reset (R50). -/
def Regs.reset : Regs :=
  { lcdc := 0, statIe := 0, scy := 0, scx := 0, lyc := 0, dma := 0, bgp := 0, obp0 := 0, obp1 := 0, wy := 0, wx := 0, vbk := 0,
    hdma1 := 0, hdma2 := 0, hdma3 := 0, hdma4 := 0, bcpsIdx := 0, bcpsInc := false, ocpsIdx := 0, ocpsInc := false }

/-- The controller after reset (R50). -/
def Controller.reset : Controller :=
  { mode := .oamSearch, modeDot := 0, ly := 0, drawLen := 172, hblankLen := 204, coin := false, wyTrigger := false,
    wxTrigger := false, hblankCopied := false, winLine := 0 }

/-- The Background Fetcher after reset (R50). -/
def BgFetcher.reset : BgFetcher :=
  { stage := .getTile, stageDot := 0, fetchX := 0, stall := 0, tileIdx := 0, tileAttr := 0, tileBytes := List.replicate 16 0,
    inWindow := false, suspended := false, discardPending := false, queue := [] }

/-- The Sprite Fetcher after reset (R50). -/
def SpriteFetcher.reset : SpriteFetcher :=
  { line := [], stage := .idle, cur := 0, pre := 0, s1Dots := 0, s3Dots := 0, extraDone := false, queue := [] }

/-- The OAM DMA Engine after reset (R50). -/
def OamDma.reset : OamDma := { active := false, src := 0, dots := 0 }

/-- The VRAM DMA Engine after reset (R50). -/
def VramDma.reset : VramDma :=
  { mode := .idle, src := 0, dst := 0x8000, blocks := 0, dots := 0, threshold := 0, len := 0x7F }

/-- Nothing written yet: every byte is the free value of `Config` (R50). -/
def Memories.reset : Memories :=
  { ext := [], vram0 := [], vram1 := [], oam := [], bgpal := [], objpal := [], fb := [] }

/-- The machine right after reset for any parameters (R50, R360). -/
def State.resetWith (p : Parameters) : State :=
  { cfg := p, reg := Regs.reset, ctl := Controller.reset, bg := BgFetcher.reset, sp := SpriteFetcher.reset, lx := 0,
    odma := OamDma.reset, vdma := VramDma.reset, mem := Memories.reset, out := Output.none,
    cnt := { vblankIrq := 0, statIrq := 0, frameReady := 0 }, events := [] }

/-- The machine right after reset (R50), for the parameters `Config.parameters` (log entry 2). -/
def State.reset : State := State.resetWith Config.parameters

end Sys2Proof.Machine
end

