-- ==== Sys2Proof/Machine/Operands.lean ====
section
/-! DEFINITION. Operand and data formats: tiles, map entries, attribute bytes, OAM records, palettes, DMA operands
(spec/30_encoding.md R104 to R113), and the address computations of the fetchers. -/

namespace Sys2Proof.Machine

/-- The color index at column `i` of a tile row: `(hi[7-i] << 1) | lo[7-i]` (R104). -/
def rowPixel (lo hi : Byte) (i : Nat) : ColorIndex := BitVec.ofBool (hi.getLsbD (7 - i)) ++ BitVec.ofBool (lo.getLsbD (7 - i))

/-- `DecodeRow` (R104): the eight color indices of a row, leftmost first. -/
def decodeRow (lo hi : Byte) : List ColorIndex := (List.range 8).map (rowPixel lo hi)

/-- `FlipRow` (R104): lane i becomes lane 7 - i. -/
def flipRow (row : List ColorIndex) : List ColorIndex := row.reverse

/-- `DecodeTile` (R104): row r of a 16-byte tile is the pair of bytes 2r and 2r + 1. -/
def decodeTile (t : List Byte) : List (List ColorIndex) :=
  (List.range 8).map fun r => decodeRow (t.getD (2 * r) 0) (t.getD (2 * r + 1) 0)

/-- One plane of a row: bit 7 - i is bit `b` of the color at column i (R104, the inverse of `DecodeRow`). -/
def encodePlane (b : Nat) (row : List ColorIndex) : Byte :=
  row.foldl (fun acc c => acc.shiftConcat (c.getLsbD b)) 0#8

/-- `Encode` of a row into its low and high plane bytes (R104, 95_test_vectors.md V2). -/
def encodeRow (row : List ColorIndex) : Byte × Byte := (encodePlane 0 row, encodePlane 1 row)

/-- `LCDC.bg_map`, `LCDC.win_map`: the base of tile map 0 or 1 (R105). -/
def mapBase (sel : Bool) : Nat := if sel then 0x9C00 else 0x9800

/-- The address of cell (row, col) of a tile map (R105). -/
def mapCell (sel : Bool) (row col : Nat) : Nat := mapBase sel + 32 * row + col

/-- Map attribute byte: the tile's own priority bit (R106). -/
def mapAttrPrio (a : Byte) : Bool := a.getLsbD 7
/-- Map attribute byte: vertical flip (R106). -/
def mapAttrVflip (a : Byte) : Bool := a.getLsbD 6
/-- Map attribute byte: horizontal flip (R106). -/
def mapAttrHflip (a : Byte) : Bool := a.getLsbD 5
/-- Map attribute byte: bank of the tile data (R106). -/
def mapAttrBank (a : Byte) : BitVec 1 := a.extractLsb' 3 1
/-- Map attribute byte: background palette (R106). -/
def mapAttrPal (a : Byte) : BitVec 3 := a.extractLsb' 0 3

/-- Where a background tile's 16 bytes start (R166): unsigned index from 0x8000, or signed index around 0x9000. -/
def tileDataBase (unsignedIdx : Bool) (idx : Byte) : Nat :=
  if unsignedIdx then 0x8000 + 16 * idx.toNat else (0x9000#16 + 16#16 * idx.signExtend 16).toNat

/-- An OAM record (R107): top line plus 16, left column plus 8, tile index, attribute byte. -/
structure OamRecord where
  y : Byte
  x : Byte
  tile : Byte
  attr : Byte
  deriving DecidableEq, Repr

/-- OAM attribute byte: the sprite's own "behind background" bit (R108). -/
def oamAttrBehind (a : Byte) : Bool := a.getLsbD 7
/-- OAM attribute byte: vertical flip (R108). -/
def oamAttrYflip (a : Byte) : Bool := a.getLsbD 6
/-- OAM attribute byte: horizontal flip (R108). -/
def oamAttrXflip (a : Byte) : Bool := a.getLsbD 5
/-- OAM attribute byte: monochrome palette, 0 = OBP0, 1 = OBP1 (R108). -/
def oamAttrDmgPal (a : Byte) : BitVec 1 := a.extractLsb' 4 1
/-- OAM attribute byte: bank of the tile data in color mode (R108). -/
def oamAttrBank (a : Byte) : BitVec 1 := a.extractLsb' 3 1
/-- OAM attribute byte: color-mode object palette (R108). -/
def oamAttrCgbPal (a : Byte) : BitVec 3 := a.extractLsb' 0 3

/-- `Matches(Y, h)` on natural numbers (R181). -/
def spriteMatches (ly y : Byte) (h : Nat) : Bool := decide (y.toNat ≤ ly.toNat + 16 ∧ ly.toNat + 16 < y.toNat + h)

/-- `ScreenX(X)` = min(160, max(0, X - 8)) (R182). -/
def screenX (x : Byte) : Nat := min 160 (x.toNat - 8)

/-- The row of a sprite on line `ly`: modulo 256, then modulo h, then the vertical flip (R194). -/
def spriteRow (ly y : Byte) (h : Nat) (flip : Bool) : Nat :=
  let r := (ly + 16#8 - y).toNat % h
  if flip then h - 1 - r else r

/-- The tile and the row in it that a sprite row selects: a tall sprite's upper half is the even tile (R194). -/
def spriteTileRow (tile : Byte) (h r : Nat) : Byte × Nat :=
  if h = 16 then ((tile &&& 0xFE#8) ||| (if 8 ≤ r then 1#8 else 0#8), r % 8) else (tile, r)

/-- The address of the low plane byte of a sprite row (R194). -/
def spriteRowAddr (tile : Byte) (r : Nat) : Nat := 0x8000 + 16 * tile.toNat + 2 * r

/-- The shade of color index c in a monochrome palette byte, `P[2c+1 : 2c]` (R109). -/
def shade (p : Byte) (c : ColorIndex) : BitVec 2 := p.extractLsb' (2 * c.toNat) 2

/-- The byte offset of entry (palette, color index) in a palette memory (R110). -/
def paletteOffset (pal : BitVec 3) (c : ColorIndex) : Nat := 8 * pal.toNat + 2 * c.toNat

/-- The color of a palette entry: `{high, low}[14:0]`, bit 15 dropped (R110). -/
def paletteColor (low high : Byte) : Color15 := (high ++ low).extractLsb' 0 15

/-- The red field of a 15-bit color (R44, R110). -/
def red (c : Color15) : BitVec 5 := c.extractLsb' 0 5
/-- The green field of a 15-bit color (R44, R110). -/
def green (c : Color15) : BitVec 5 := c.extractLsb' 5 5
/-- The blue field of a 15-bit color (R44, R110). -/
def blue (c : Color15) : BitVec 5 := c.extractLsb' 10 5

/-- OAM DMA source address `{v, 0x00}` (R111). -/
def oamDmaSource (v : Byte) : Addr := v ++ 0#8

/-- VRAM DMA source, `{HDMA1, HDMA2} & 0xFFF0` (R112). -/
def vdmaSource (h1 h2 : Byte) : Addr := (h1 ++ h2) &&& 0xFFF0#16

/-- VRAM DMA destination, `0x8000 | ({HDMA3, HDMA4} & 0x1FF0)` (R112). -/
def vdmaDest (h3 h4 : Byte) : Addr := 0x8000#16 ||| ((h3 ++ h4) &&& 0x1FF0#16)

/-- The length field of HDMA5, `v[6:0]` (R112). -/
def vdmaLenField (v : Byte) : BitVec 7 := v.extractLsb' 0 7

/-- The number of 16-byte blocks, `v[6:0] + 1` (R112). -/
def vdmaBlocksOf (v : Byte) : Nat := (vdmaLenField v).toNat + 1

/-- The mode bit of HDMA5: 1 = hblank, 0 = general (R112). -/
def vdmaHblankBit (v : Byte) : Bool := v.getLsbD 7

/-- A destination address wrapped inside 0x8000 to 0x9FFF (R246). -/
def wrapVram (a : Addr) : Addr := 0x8000#16 ||| (a &&& 0x1FFF#16)

/-- The index of a palette index register, bits 5:0 (R113). -/
def paletteIndexField (v : Byte) : BitVec 6 := v.extractLsb' 0 6

/-- The read value of a palette index register, `{inc, 1, idx}` (R113). -/
def paletteIndexByte (inc : Bool) (idx : BitVec 6) : Byte := BitVec.ofBool inc ++ 1#1 ++ idx

end Sys2Proof.Machine
end

