-- ==== Sys2Proof/Machine/Flags.lean ====
section
/-! DEFINITION. The fields of LCDC and STAT (spec/10_state.md R21, R22), the conditions behind the one-bit flags of R36, and
the level outputs of R45. -/

namespace Sys2Proof.Machine

/-- `LCDC.en`, display enable (R21). -/
def State.lcdEn (s : State) : Bool := s.reg.lcdc.getLsbD 7
/-- `LCDC.win_map` (R21). -/
def State.winMap (s : State) : Bool := s.reg.lcdc.getLsbD 6
/-- `LCDC.win_en` (R21). -/
def State.winEn (s : State) : Bool := s.reg.lcdc.getLsbD 5
/-- `LCDC.tile_sel` (R21). -/
def State.tileSel (s : State) : Bool := s.reg.lcdc.getLsbD 4
/-- `LCDC.bg_map` (R21). -/
def State.bgMap (s : State) : Bool := s.reg.lcdc.getLsbD 3
/-- `LCDC.obj_size` (R21). -/
def State.objSize (s : State) : Bool := s.reg.lcdc.getLsbD 2
/-- `LCDC.obj_en` (R21). -/
def State.objEn (s : State) : Bool := s.reg.lcdc.getLsbD 1
/-- `LCDC.bg_prio` (R21). -/
def State.bgPrio (s : State) : Bool := s.reg.lcdc.getLsbD 0

/-- The height of a sprite: 16 in tall-sprite mode, else 8 (R180, R194). -/
def State.objHeight (s : State) : Nat := if s.objSize then 16 else 8

/-- `STAT.lyc_ie`, STAT bit 6 (R22). -/
def State.lycIe (s : State) : Bool := s.reg.statIe.getLsbD 3
/-- `STAT.oam_ie`, STAT bit 5 (R22). -/
def State.oamIe (s : State) : Bool := s.reg.statIe.getLsbD 2
/-- `STAT.vblank_ie`, STAT bit 4 (R22). -/
def State.vblankIe (s : State) : Bool := s.reg.statIe.getLsbD 1
/-- `STAT.hblank_ie`, STAT bit 3 (R22). -/
def State.hblankIe (s : State) : Bool := s.reg.statIe.getLsbD 0

/-- The mode number of `STAT.mode` (R22). -/
def LcdMode.code : LcdMode → BitVec 2
  | .hBlank => 0
  | .vBlank => 1
  | .oamSearch => 2
  | .draw => 3

/-- `STAT.mode`: 0 while the display is off (R22, R262); also a level output of the block (R45). -/
def State.statMode (s : State) : BitVec 2 := if s.lcdEn then s.ctl.mode.code else 0

/-- The coincidence condition, LY = LYC (R132). -/
def State.coincides (s : State) : Bool := s.ctl.ly == s.reg.lyc

/-- The window-trigger-Y condition, LY ≥ WY unsigned (R132). -/
def State.wyReached (s : State) : Bool := decide (s.reg.wy.toNat ≤ s.ctl.ly.toNat)

/-- The window-trigger-X condition, `lx + 7 ≥ WX` on natural numbers (R134, R216). -/
def wxReached (lx : Nat) (wx : Byte) : Bool := decide (wx.toNat ≤ lx + 7)

/-- The fine horizontal scroll, `SCX mod 8` (R23). -/
def State.fineScroll (s : State) : Nat := s.reg.scx.toNat % 8

/-- Level output `oam_dma_active` (R45, R233). -/
def State.oamDmaActive (s : State) : Bool := s.odma.active

/-- Level output `vram_dma_active` (R45). -/
def State.vramDmaActive (s : State) : Bool := s.vdma.mode != .idle

/-- `Gated(addr)` for a host access (R74): OAM during an OAM DMA, in OAM_SEARCH and in DRAW; VRAM in DRAW; the modes count
only while the display is on. -/
def State.gated (s : State) (a : Addr) : Bool :=
  match busTarget a with
  | .vram => s.lcdEn && s.ctl.mode == .draw
  | .oam => s.odma.active || (s.lcdEn && (s.ctl.mode == .draw || s.ctl.mode == .oamSearch))
  | _ => false

end Sys2Proof.Machine
end

