-- ==== Sys2Proof/Machine/Ops.lean ====
section
/-! DEFINITION. The shared operations over memory, registers and outputs: sparse memories, the bus contract for reads
(spec/20_memory.md R72 to R79), raising a signal (10_state.md R45), the answer of an event, the penalty dot
(40_mode_controller.md R136). The block takes no exception and returns from none (60_exceptions.md R330, R339, R340): raising
a signal is all it does toward an interrupt. -/

namespace Sys2Proof.Machine

/-- What a listed address holds; none where nothing has written it. -/
def Memory.lookup {α : Type} : Memory α → Nat → Option α
  | [], _ => none
  | (k, v) :: m, a => if k = a then some v else Memory.lookup m a

/-- Write one cell, keeping the addresses strictly rising. -/
def Memory.write {α : Type} : Memory α → Nat → α → Memory α
  | [], a, v => [(a, v)]
  | (k, w) :: m, a, v =>
    if a < k then (a, v) :: (k, w) :: m else if a = k then (a, v) :: m else (k, w) :: Memory.write m a v

/-- The byte memory of a space. -/
def Memories.cells (m : Memories) : Space → Memory Byte
  | .ext => m.ext
  | .vram0 => m.vram0
  | .vram1 => m.vram1
  | .oam => m.oam
  | .bgpal => m.bgpal
  | .objpal => m.objpal

/-- Write one byte of a space. -/
def Memories.store (m : Memories) (sp : Space) (a : Nat) (v : Byte) : Memories :=
  match sp with
  | .ext => { m with ext := m.ext.write a v }
  | .vram0 => { m with vram0 := m.vram0.write a v }
  | .vram1 => { m with vram1 := m.vram1.write a v }
  | .oam => { m with oam := m.oam.write a v }
  | .bgpal => { m with bgpal := m.bgpal.write a v }
  | .objpal => { m with objpal := m.objpal.write a v }

/-- Read one byte of a space: what was last written there, else the unspecified reset contents (R50, R73). -/
def State.peek (s : State) (sp : Space) (a : Nat) : Byte := ((s.mem.cells sp).lookup a).getD (Config.initByte sp a)

/-- Store one byte of a space. -/
def State.poke (s : State) (sp : Space) (a : Nat) (v : Byte) : State := { s with mem := s.mem.store sp a v }

/-- The framebuffer's key of (line, column): `fb[y][x]` (R44). -/
def fbKey (y x : Nat) : Nat := 160 * y + x

/-- A cell of the framebuffer (R44), unspecified until the Mixer writes it (R50). -/
def State.fbCell (s : State) (y x : Nat) : Color15 := (s.mem.fb.lookup (fbKey y x)).getD (Config.initCell (fbKey y x))

/-- `fb[y][x] <- c` (R215). -/
def State.fbWrite (s : State) (y x : Nat) (c : Color15) : State :=
  { s with mem := { s.mem with fb := s.mem.fb.write (fbKey y x) c } }

/-- A bank of video memory (R78). -/
def vramSpace (bank : BitVec 1) : Space := if bank = 0#1 then .vram0 else .vram1

/-- `VramRead(bank, addr)` (R78). -/
def State.vramRead (s : State) (bank : BitVec 1) (a : Nat) : Byte := s.peek (vramSpace bank) a

/-- `VramWrite(bank, addr, v)` (R78). -/
def State.vramWrite (s : State) (bank : BitVec 1) (a : Nat) (v : Byte) : State := s.poke (vramSpace bank) a v

/-- `OamRead(i)` (R79). -/
def State.oamRead (s : State) (i : Nat) : Byte := s.peek .oam i

/-- `OamWrite(i, v)` (R79). -/
def State.oamWrite (s : State) (i : Nat) (v : Byte) : State := s.poke .oam i v

/-- OAM record n, bytes 4n to 4n+3 (R107). -/
def State.oamRecord (s : State) (n : Nat) : OamRecord :=
  { y := s.oamRead (4 * n), x := s.oamRead (4 * n + 1), tile := s.oamRead (4 * n + 2), attr := s.oamRead (4 * n + 3) }

/-- The index in `oam` of a bus address in 0xFE00 to 0xFE9F (R72). -/
def oamIndex (a : Addr) : Nat := a.toNat - 0xFE00

/-- What a color-mode register reads as: its value, or 0xFF in monochrome (R116, D30). -/
def State.cgbRead (s : State) (v : Byte) : Byte := if s.cfg.cgbMode then v else 0xFF#8

/-- The read value of STAT: `0x80 | stat_ie << 3 | coin << 2 | mode` (R262). -/
def State.statByte (s : State) : Byte := 1#1 ++ s.reg.statIe ++ BitVec.ofBool s.ctl.coin ++ s.statMode

/-- The read value of VBK, `0xFE | vbk` (R284). -/
def State.vbkByte (s : State) : Byte := s.cgbRead (0x7F#7 ++ s.reg.vbk)

/-- The read value of HDMA5, `{idle, hdma5_len}` (R247, R294). -/
def State.hdma5Byte (s : State) : Byte := s.cgbRead (BitVec.ofBool (s.vdma.mode == .idle) ++ s.vdma.len)

/-- The read value of BCPS (R296). -/
def State.bcpsByte (s : State) : Byte := s.cgbRead (paletteIndexByte s.reg.bcpsInc s.reg.bcpsIdx)

/-- The read value of BCPD, `bgpal[bcps_idx]` (R298). -/
def State.bcpdByte (s : State) : Byte := s.cgbRead (s.peek .bgpal s.reg.bcpsIdx.toNat)

/-- The read value of OCPS (R300). -/
def State.ocpsByte (s : State) : Byte := s.cgbRead (paletteIndexByte s.reg.ocpsInc s.reg.ocpsIdx)

/-- The read value of OCPD, `objpal[ocps_idx]` (R302). -/
def State.ocpdByte (s : State) : Byte := s.cgbRead (s.peek .objpal s.reg.ocpsIdx.toNat)

/-- `Dispatch_read` (R72): the register read rules of 46_register_ops.md, the memories, or the collaborator (R73). -/
def State.dispatchRead (s : State) (a : Addr) : Byte :=
  match busTarget a with
  | .lcdc => s.reg.lcdc
  | .stat => s.statByte
  | .scy => s.reg.scy
  | .scx => s.reg.scx
  | .ly => s.ctl.ly
  | .lyc => s.reg.lyc
  | .dma => s.reg.dma
  | .bgp => s.reg.bgp
  | .obp0 => s.reg.obp0
  | .obp1 => s.reg.obp1
  | .wy => s.reg.wy
  | .wx => s.reg.wx
  | .vbk => s.vbkByte
  | .hdma1 | .hdma2 | .hdma3 | .hdma4 => 0xFF#8
  | .hdma5 => s.hdma5Byte
  | .bcps => s.bcpsByte
  | .bcpd => s.bcpdByte
  | .ocps => s.ocpsByte
  | .ocpd => s.ocpdByte
  | .vram => s.vramRead s.reg.vbk a.toNat
  | .oam => s.oamRead (oamIndex a)
  | .mem => s.peek .ext a.toNat

/-- `BusRead(addr, bypass)` (R72): a gated access without bypass reads 0xFF. -/
def State.busRead (s : State) (a : Addr) (bypass : Bool) : Byte :=
  if !bypass && s.gated a then 0xFF#8 else s.dispatchRead a

/-- `MemRead(addr, 1)`: the block's own read, never gated (R6, R72). -/
def State.memRead (s : State) (a : Addr) : Byte := s.busRead a true

/-- The signals of R45. -/
inductive Signal where
  | vblankIrq
  | statIrq
  | frameReady
  deriving DecidableEq, Repr

/-- Add a signal to a set; adding it twice is adding it once (R45). -/
def Signals.add (g : Signals) : Signal → Signals
  | .vblankIrq => { g with vblankIrq := true }
  | .statIrq => { g with statIrq := true }
  | .frameReady => { g with frameReady := true }

/-- `raise SIGNAL` (R6): add the signal to the output set of the current event. It changes no other state (R339). -/
def State.raise (s : State) (g : Signal) : State := { s with out := { s.out with signals := s.out.signals.add g } }

/-- `if c: raise SIGNAL`. -/
def State.raiseIf (s : State) (c : Bool) (g : Signal) : State := if c then s.raise g else s

/-- Begin an event: nothing answered yet. -/
def State.quiet (s : State) : State := { s with out := Output.none }

/-- The answer of a `RD`: one byte, no signal, and no other change of state (46_register_ops.md, R77). -/
def State.answer (s : State) (r : Byte) : State := { s with out := { signals := Signals.none, data := some r } }

/-- Accumulate the signal set of the event that just ended in the counters (R45). -/
def State.countSignals (s : State) : State :=
  { s with cnt :=
    { vblankIrq := s.cnt.vblankIrq + s.out.signals.vblankIrq.toNat
      statIrq := s.cnt.statIrq + s.out.signals.statIrq.toNat
      frameReady := s.cnt.frameReady + s.out.signals.frameReady.toNat } }

/-- `Penalty()` (R136): one dot charged to DRAW and taken from H_BLANK; Nat subtraction stops at 0. -/
def State.penalty (s : State) : State :=
  { s with ctl := { s.ctl with drawLen := s.ctl.drawLen + 1, hblankLen := s.ctl.hblankLen - 1 } }

end Sys2Proof.Machine
end

