-- ==== Sys2Proof/Machine/BgFetcher.lean ====
section
/-! DEFINITION. The Background/Window Fetcher (spec/41_bg_fetcher.md R160 to R170). -/

namespace Sys2Proof.Machine

/-- Whether the window is entered at this fetcher dot (R161). -/
def State.entersWindow (s : State) : Bool := !s.bg.inWindow && s.winEn && s.ctl.wyTrigger && s.ctl.wxTrigger

/-- Whether window entry costs the one-dot penalty: at column 0 with a fine scroll (R161). -/
def State.windowEntryStalls (s : State) : Bool := s.lx == 0 && s.fineScroll != 0

/-- The effect of entering the window (R161, R162). -/
def State.enterWindow (s : State) : State :=
  let t := { s with bg := { s.bg with inWindow := true, queue := [], stage := .getTile, stageDot := 0, fetchX := 0, discardPending := false } }
  if s.windowEntryStalls then State.penalty { t with bg := { t.bg with stall := 1 } } else t

/-- `WindowEntryCheck()` (R161). -/
def State.windowEntryCheck (s : State) : State := if s.entersWindow then s.enterWindow else s

/-- `BgMapAddr()` (R164). -/
def State.bgMapAddr (s : State) : Nat :=
  mapCell s.bgMap ((s.ctl.ly + s.reg.scy).toNat / 8) ((s.reg.scx.toNat / 8 + s.bg.fetchX) % 32)

/-- `WinMapAddr()` (R165). -/
def State.winMapAddr (s : State) : Nat := mapCell s.winMap (s.ctl.winLine.toNat / 8 % 32) (s.bg.fetchX % 32)

/-- The map address `GetTile()` reads (R163). -/
def State.fetchMapAddr (s : State) : Nat := if s.bg.inWindow then s.winMapAddr else s.bgMapAddr

/-- `GetTile()` (R163): latch the tile index and, in color mode, the attribute byte. -/
def State.getTile (s : State) : State :=
  { s with bg := { s.bg with
      tileIdx := s.vramRead 0#1 s.fetchMapAddr
      tileAttr := if s.cfg.cgbMode then s.vramRead 1#1 s.fetchMapAddr else 0#8 } }

/-- `GetTileData()` (R166): latch the tile's 16 bytes. -/
def State.getTileData (s : State) : State :=
  let bank := if s.cfg.cgbMode then mapAttrBank s.bg.tileAttr else 0#1
  let base := tileDataBase s.tileSel s.bg.tileIdx
  { s with bg := { s.bg with tileBytes := (List.range 16).map fun k => s.vramRead bank (base + k) } }

/-- "the current sub-line" of the tile, before the vertical flip (R169). -/
def State.subLine (s : State) : Nat := if s.bg.inWindow then s.ctl.winLine.toNat % 8 else (s.ctl.ly + s.reg.scy).toNat % 8

/-- The row of color indices a push enqueues: sub-line, vertical flip, decode, horizontal flip (R169). -/
def State.pushRow (s : State) : List ColorIndex :=
  let sub := if s.cfg.cgbMode && mapAttrVflip s.bg.tileAttr then 7 - s.subLine else s.subLine
  let row := decodeRow (s.bg.tileBytes.getD (2 * sub) 0) (s.bg.tileBytes.getD (2 * sub + 1) 0)
  if s.cfg.cgbMode && mapAttrHflip s.bg.tileAttr then flipRow row else row

/-- The background pixel of a color index (R38, R169). -/
def State.bgPixel (s : State) (c : ColorIndex) : Pixel :=
  { color := c
    pal := if s.cfg.cgbMode then mapAttrPal s.bg.tileAttr else 0#3
    isSprite := false
    bgOverObj := false
    bgToOam := s.cfg.cgbMode && mapAttrPrio s.bg.tileAttr
    key := 0 }

/-- `ScrollDiscard()` (R170): the first push of a line loses its first `SCX mod 8` pixels. -/
def State.scrollDiscard (s : State) : State :=
  if s.bg.discardPending then
    { s with bg := { s.bg with queue := s.bg.queue.drop s.fineScroll, discardPending := false } }
  else s

/-- `Push()` (R169). -/
def State.push (s : State) : State :=
  let t := State.scrollDiscard { s with bg := { s.bg with queue := s.bg.queue ++ s.pushRow.map s.bgPixel } }
  { t with bg := { t.bg with fetchX := t.bg.fetchX + 1 } }

/-- `TryPush()` (R168): push when the queue has room, and start the next tile; else stay. -/
def State.tryPush (s : State) : State :=
  if s.bg.queue.length ≤ Config.bgQPopMin then
    let t := State.push { s with bg := { s.bg with stage := .push } }
    { t with bg := { t.bg with stage := .getTile, stageDot := 0 } }
  else s

/-- The stage work of one fetcher dot (R160). -/
def State.bgStageDot (s : State) : State :=
  let t := { s with bg := { s.bg with stageDot := s.bg.stageDot + 1 } }
  match s.bg.stage with
  | .getTile =>
    if t.bg.stageDot = 2 then
      let u := t.getTile
      { u with bg := { u.bg with stage := .getTileDataLow, stageDot := 0 } }
    else t
  | .getTileDataLow =>
    if t.bg.stageDot = 2 then
      let u := t.getTileData
      { u with bg := { u.bg with stage := .getTileDataHigh, stageDot := 0 } }
    else t
  | .getTileDataHigh =>
    if t.bg.stageDot = 2 then State.tryPush { t with bg := { t.bg with stage := .sleep, stageDot := 0 } } else t
  | .sleep => s.tryPush
  | .push => s.tryPush

/-- `BgStep()` (R160): window entry, then a stall dot (R162) or the stage work. -/
def State.bgStep (s : State) : State :=
  let t := s.windowEntryCheck
  if 0 < t.bg.stall then { t with bg := { t.bg with stall := t.bg.stall - 1 } } else t.bgStageDot

end Sys2Proof.Machine
end

