-- ==== Sys2Proof/Machine/SpriteFetcher.lean ====
section
/-! DEFINITION. OAM search and the Sprite Fetcher (spec/42_sprite_fetcher.md R180 to R198). -/

namespace Sys2Proof.Machine

/-- The entry OAM search makes of record n (R180). -/
def State.foundSprite (s : State) (n : Nat) : LineSprite := { idx := n, sx := screenX (s.oamRead (4 * n + 1)), done := false }

/-- The first 10 records on the line in ascending OAM index (R180). -/
def State.foundSprites (s : State) : List LineSprite :=
  (((List.range 40).filter fun n => spriteMatches s.ctl.ly (s.oamRead (4 * n)) s.objHeight).take Config.maxLineSprites).map s.foundSprite

/-- Whether entry `a` comes before entry `b` in the monochrome order: ascending screen-X, ties by `OAM_TIE_BREAK` (R183). -/
def spriteBefore (tb : TieBreak) (a b : LineSprite) : Bool :=
  decide (a.sx < b.sx) || (a.sx == b.sx &&
    match tb with
    | .lowerIndexFirst => decide (a.idx ≤ b.idx)
    | .higherIndexFirst => decide (b.idx ≤ a.idx))

/-- Insert an entry before the first that it comes before. -/
def insertSprite (tb : TieBreak) (a : LineSprite) : List LineSprite → List LineSprite
  | [] => [a]
  | b :: l => if spriteBefore tb a b then a :: b :: l else b :: insertSprite tb a l

/-- The monochrome sort of `found` (R183). -/
def sortSprites (tb : TieBreak) : List LineSprite → List LineSprite
  | [] => []
  | a :: l => insertSprite tb a (sortSprites tb l)

/-- `Order(found)` (R183): OAM order in color mode, sorted in monochrome. -/
def orderSprites (p : Parameters) (found : List LineSprite) : List LineSprite :=
  if p.cgbMode then found else sortSprites p.oamTieBreak found

/-- `CollectSprites()` (R180). -/
def State.collectSprites (s : State) : State := { s with sp := { s.sp with line := orderSprites s.cfg s.foundSprites } }

/-- `line_sprites[i].done <- true` (R188, R198). -/
def markDone : List LineSprite → Nat → List LineSprite
  | [], _ => []
  | e :: l, 0 => { e with done := true } :: l
  | e :: l, i + 1 => e :: markDone l i

/-- The OAM index of the sprite being fetched (R194). In states no run reaches, where `sp_cur` names no entry, record 0
(log entry 9). -/
def State.currentIdx (s : State) : Nat := ((s.sp.line[s.sp.cur]?).map LineSprite.idx).getD 0

/-- The bank of a sprite's tile data (R194). -/
def State.objBank (s : State) (attr : Byte) : BitVec 1 := if s.cfg.cgbMode then oamAttrBank attr else 0#1

/-- The palette selector of a sprite's pixels (R38, R195). -/
def State.objPal (s : State) (attr : Byte) : BitVec 3 := if s.cfg.cgbMode then oamAttrCgbPal attr else (oamAttrDmgPal attr).setWidth 3

/-- The two plane bytes of the sprite's row on this line (R194). -/
def State.spriteRowBytes (s : State) (r : OamRecord) : Byte × Byte :=
  let h := s.objHeight
  let tr := spriteTileRow r.tile h (spriteRow s.ctl.ly r.y h (oamAttrYflip r.attr))
  let a := spriteRowAddr tr.1 tr.2
  (s.vramRead (s.objBank r.attr) a, s.vramRead (s.objBank r.attr) (a + 1))

/-- A pixel of the sprite being fetched (R195). -/
def State.objPixel (s : State) (attr : Byte) (c : ColorIndex) : Pixel :=
  { color := c, pal := s.objPal attr, isSprite := true, bgOverObj := oamAttrBehind attr, bgToOam := false, key := s.sp.cur }

/-- The eight pixels of the sprite's row, flipped where its record says so (R195). -/
def State.spritePixels (s : State) (r : OamRecord) : List Pixel :=
  let row := decodeRow (s.spriteRowBytes r).1 (s.spriteRowBytes r).2
  (if oamAttrXflip r.attr then flipRow row else row).map (s.objPixel r.attr)

/-- How many pixels of a sprite lie left of column 0 (R196). -/
def offScreen (x : Byte) : Nat := 8 - x.toNat

/-- The incoming pixels: those left of the screen are dropped and as many transparent ones follow (R196). -/
def State.incomingPixels (s : State) (r : OamRecord) : List Pixel :=
  (s.spritePixels r).drop (offScreen r.x) ++ List.replicate (offScreen r.x) (s.objPixel r.attr 0#2)

/-- `while |spq| < 8: append TRANSPARENT` (R197). -/
def padQueue (q : List Pixel) : List Pixel := q ++ List.replicate (Config.spriteQMax - q.length) Pixel.transparent

/-- The merge rule of one slot: the incoming pixel replaces a transparent one or one with a worse key (R197). -/
def mergePixel (old new : Pixel) : Pixel := if old.color = 0#2 ∨ new.key < old.key then new else old

/-- The merge, slot by slot (R197). -/
def mergeQueue : List Pixel → List Pixel → List Pixel
  | q :: qs, p :: ps => mergePixel q p :: mergeQueue qs ps
  | qs, [] => qs
  | [], _ => []

/-- `Deliver()` (R194 to R198): read the record again, build and merge its pixels, mark the fetch complete. -/
def State.deliver (s : State) : State :=
  let r := s.oamRecord s.currentIdx
  { s with
    sp := { s.sp with
      queue := mergeQueue (padQueue s.sp.queue) (s.incomingPixels r)
      line := markDone s.sp.line s.sp.cur
      stage := .idle }
    bg := { s.bg with suspended := false } }

/-- The position of the first entry that is not done and starts at column `lx` (R186). -/
def firstAtCursor : List LineSprite → Nat → Option Nat
  | [], _ => none
  | e :: l, lx => if !e.done && e.sx == lx then some 0 else (firstAtCursor l lx).map (· + 1)

/-- Whether the column-0 extra penalty is due (R187). -/
def State.extraDue (s : State) : Bool := s.lx == 0 && s.fineScroll != 0 && !s.sp.extraDone

/-- The effect of a trigger on entry i, with `ExtraPenalty()` (R186, R187). -/
def State.beginFetch (s : State) (i : Nat) : State :=
  { s with
    sp := { s.sp with
      cur := i
      stage := .stage1
      s1Dots := 0
      s3Dots := 0
      pre := if s.extraDue then s.fineScroll else 0
      extraDone := s.sp.extraDone || s.extraDue }
    bg := { s.bg with suspended := true } }

/-- The condition of `AbortCheck()` (R188). -/
def State.aborts (s : State) : Bool := !s.cfg.cgbMode && !s.objEn

/-- The effect of an abort (R188). -/
def State.abortFetch (s : State) : State :=
  let t := s.penalty
  { t with
    sp := { t.sp with line := markDone t.sp.line t.sp.cur, stage := .idle, pre := 0 }
    bg := { t.bg with suspended := false } }

/-- `Stage1()` (R189): an empty background queue has the Background Fetcher clocked. -/
def State.stage1Dot (s : State) : State :=
  let t := State.penalty { s with sp := { s.sp with s1Dots := s.sp.s1Dots + 1 } }
  let u := if t.bg.queue.length = 0 then t.bgStep else t
  if 5 ≤ u.sp.s1Dots ∧ 0 < u.bg.queue.length then { u with sp := { u.sp with stage := .stage2 } } else u

/-- `Stage3()` (R191). -/
def State.stage3Dot (s : State) : State :=
  let t := State.penalty { s with sp := { s.sp with s3Dots := s.sp.s3Dots + 1 } }
  if t.sp.s3Dots = 3 then { t with sp := { t.sp with stage := .stage4 } } else t

/-- A stage of one dot (R190, R192, R193): charge a penalty dot and proceed. -/
def State.oneDotStage (s : State) (nxt : SpriteStage) : State :=
  let t := s.penalty
  { t with sp := { t.sp with stage := nxt } }

/-- The dot of a fetch in stages 1 to 5 (R185): abort check, extra penalty, stage work. -/
def State.spriteDot (s : State) : State :=
  if s.aborts then s.abortFetch
  else if 0 < s.sp.pre then State.penalty { s with sp := { s.sp with pre := s.sp.pre - 1 } }
  else match s.sp.stage with
    | .stage1 => s.stage1Dot
    | .stage2 => s.oneDotStage .stage3
    | .stage3 => s.stage3Dot
    | .stage4 => s.oneDotStage .stage5
    | .stage5 => s.oneDotStage .stage6
    | .idle => s
    | .stage6 => s

/-- Stage 6 has no dot of its own: it runs at the start of the dot (R185). -/
def State.deliverIfDue (s : State) : State := if s.sp.stage = .stage6 then s.deliver else s

/-- `SpriteStep()` (R185): whether it consumed the dot, and the state after it. -/
def State.spriteStep (s : State) : Bool × State :=
  let t := s.deliverIfDue
  if t.sp.stage = .idle then
    match firstAtCursor t.sp.line t.lx with
    | none => (false, t)
    | some i => (true, (t.beginFetch i).spriteDot)
  else (true, t.spriteDot)

end Sys2Proof.Machine
end

