-- ==== Sys2Proof/Machine/Mixer.lean ====
section
/-! DEFINITION. The Pixel Mixer (spec/43_pixel_mixer.md R210 to R216). -/

namespace Sys2Proof.Machine

/-- The entry of a color-mode palette memory (R110, R212, R213). -/
def State.paletteEntry (s : State) (sp : Space) (pal : BitVec 3) (c : ColorIndex) : Color15 :=
  paletteColor (s.peek sp (paletteOffset pal c)) (s.peek sp (paletteOffset pal c + 1))

/-- `BgColor(b)` (R212). -/
def State.bgColor (s : State) (b : Pixel) : Color15 :=
  if s.cfg.cgbMode then s.paletteEntry .bgpal b.pal b.color else (shade s.reg.bgp b.color).setWidth 15

/-- `ObjColor(p)` (R213). -/
def State.objColor (s : State) (p : Pixel) : Color15 :=
  if s.cfg.cgbMode then s.paletteEntry .objpal p.pal p.color
  else (shade (if p.pal = 0#3 then s.reg.obp0 else s.reg.obp1) p.color).setWidth 15

/-- `BLANK` (R214). -/
def blank : Color15 := 0#15

/-- The first resolution rule: no sprite pixel, or objects disabled (R211). -/
def State.resolveBg (s : State) (b : Pixel) : Color15 := if !s.cfg.cgbMode && !s.bgPrio then blank else s.bgColor b

/-- `Resolve(b, s)` (R211). -/
def State.resolve (s : State) (b : Pixel) (p : Option Pixel) : Color15 :=
  match p with
  | none => s.resolveBg b
  | some p =>
    if !s.objEn then s.resolveBg b
    else if p.color = 0#2 then s.bgColor b
    else if s.cfg.cgbMode && b.bgToOam then s.bgColor b
    else if !s.bgPrio then s.objColor p
    else if p.bgOverObj then (if b.color = 0#2 then s.objColor p else s.bgColor b)
    else s.objColor p

/-- The effect of popping `b` (R210, R215, R216): resolve, write the framebuffer, advance the cursor, look at WX again. -/
def State.mixPixel (s : State) (b : Pixel) (rest : List Pixel) : State :=
  let t := s.fbWrite s.ctl.ly.toNat s.lx (s.resolve b s.sp.queue.head?)
  { t with
    bg := { t.bg with queue := rest }
    sp := { t.sp with queue := t.sp.queue.tail }
    lx := t.lx + 1
    ctl := { t.ctl with wxTrigger := wxReached (t.lx + 1) t.reg.wx } }

/-- `MixStep()` (R210): pop only while the queue holds more than 8 pixels. -/
def State.mixStep (s : State) : State :=
  match s.bg.queue with
  | [] => s
  | b :: rest => if Config.bgQPopMin < rest.length + 1 then s.mixPixel b rest else s

end Sys2Proof.Machine
end

