-- ==== Sys2Proof/Machine/OamDma.lean ====
section
/-! DEFINITION. The OAM DMA Engine (spec/44_oam_dma.md R230 to R234). -/

namespace Sys2Proof.Machine

/-- `OamDmaStart(v)` (R230); a write while a transfer runs restarts it (R234). -/
def State.oamDmaStart (s : State) (v : Byte) : State :=
  { s with reg := { s.reg with dma := v }, odma := { active := true, src := oamDmaSource v, dots := 0 } }

/-- One byte of the copy, read with the gate bypassed at the time of the copy (R231, R232). -/
def State.oamDmaByte (s : State) (k : Nat) : State := s.oamWrite k (s.memRead (s.odma.src + BitVec.ofNat 16 k))

/-- The copy of the 0xA0 bytes, ascending (R231). -/
def State.oamDmaCopy (s : State) : State := (List.range Config.oamDmaLen).foldl State.oamDmaByte s

/-- `OamDmaTick()` (R231). -/
def State.oamDmaTick (s : State) : State :=
  if s.odma.active then
    let t := { s with odma := { s.odma with dots := s.odma.dots + 1 } }
    if t.odma.dots = Config.oamDmaDots then
      let u := t.oamDmaCopy
      { u with odma := { u.odma with active := false } }
    else t
  else s

end Sys2Proof.Machine
end

