-- ==== Sys2Proof/Machine/VramDma.lean ====
section
/-! DEFINITION. The VRAM DMA Engine (spec/45_vram_dma.md R240 to R249). -/

namespace Sys2Proof.Machine

/-- Byte k of a block: destination bank `vbk`, destination wrapped inside VRAM, source read with the gate bypassed (R246). -/
def State.vdmaByte (s : State) (k : Nat) : State :=
  s.vramWrite s.reg.vbk (wrapVram (s.vdma.dst + BitVec.ofNat 16 k)).toNat (s.memRead (s.vdma.src + BitVec.ofNat 16 k))

/-- The 16 bytes of a block, ascending (R246). -/
def State.blockBytes (s : State) : State := (List.range Config.vdmaBlock).foldl State.vdmaByte s

/-- `CopyBlock()` (R246). -/
def State.copyBlock (s : State) : State :=
  { s.blockBytes with vdma := { s.vdma with src := s.vdma.src + 16#16, dst := wrapVram (s.vdma.dst + 16#16) } }

/-- `repeat n times: CopyBlock()` (R241). -/
def State.copyBlocks (s : State) (n : Nat) : State := Nat.iterate State.copyBlock n s

/-- `GeneralCopy()` (R241). -/
def State.generalCopy (s : State) : State := s.copyBlocks s.vdma.blocks

/-- `VdmaLoad(v)` (R240, R112). -/
def State.vdmaLoad (s : State) (v : Byte) : State :=
  { s with vdma := { s.vdma with
      src := vdmaSource s.reg.hdma1 s.reg.hdma2
      dst := vdmaDest s.reg.hdma3 s.reg.hdma4
      blocks := vdmaBlocksOf v
      len := vdmaLenField v } }

/-- Set `vdma_mode`. -/
def State.setVdmaMode (s : State) (m : VdmaMode) : State := { s with vdma := { s.vdma with mode := m } }

/-- Start a general transfer (R240): all blocks are copied at once, then the counter starts. -/
def State.startGeneral (s : State) (v : Byte) : State :=
  let t := ((s.vdmaLoad v).setVdmaMode .general).generalCopy
  { t with vdma := { t.vdma with dots := 0, threshold := Config.vdmaBlockThreshold * vdmaBlocksOf v, blocks := 0 } }

/-- Start or restart an hblank transfer (R240). -/
def State.startHblank (s : State) (v : Byte) : State := (s.vdmaLoad v).setVdmaMode .hblank

/-- `VdmaWrite(v)` (R240): ignored while a general transfer counts, cancel or restart of an hblank transfer (R245), start. -/
def State.vdmaWrite (s : State) (v : Byte) : State :=
  match s.vdma.mode with
  | .general => s
  | .hblank => if vdmaHblankBit v then s.startHblank v else s.setVdmaMode .idle
  | .idle => if vdmaHblankBit v then s.startHblank v else s.startGeneral v

/-- `VdmaComplete()` (R243). -/
def State.vdmaComplete (s : State) : State := { s with vdma := { s.vdma with mode := .idle, blocks := 0, len := 0x7F#7 } }

/-- `VdmaTick()` (R242): the counter of a general transfer. -/
def State.vdmaTick (s : State) : State :=
  if s.vdma.mode = .general then
    let t := { s with vdma := { s.vdma with dots := s.vdma.dots + (if s.cfg.doubleSpeed then 1 else 2) } }
    if t.vdma.threshold ≤ t.vdma.dots then t.vdmaComplete else t
  else s

/-- Whether this H_BLANK dot copies a block (R244). -/
def State.hblankCopyDue (s : State) : Bool := s.vdma.mode == .hblank && !s.ctl.hblankCopied

/-- The block copy of an H_BLANK period (R244). -/
def State.hblankCopy (s : State) : State :=
  let t := s.copyBlock
  let u := { t with ctl := { t.ctl with hblankCopied := true }, vdma := { t.vdma with blocks := t.vdma.blocks - 1 } }
  if u.vdma.blocks = 0 then u.vdmaComplete else { u with vdma := { u.vdma with len := u.vdma.len - 1#7 } }

/-- `VdmaHBlankCopy()` (R244). -/
def State.vdmaHblankCopy (s : State) : State := if s.hblankCopyDue then s.hblankCopy else s

end Sys2Proof.Machine
end

