-- ==== Sys2Proof/Machine/Controller.lean ====
section
/-! DEFINITION. The Scanline/Mode Controller (spec/40_mode_controller.md R131 to R145). -/

namespace Sys2Proof.Machine

/-- `EnterOamSearch()` (R132). -/
def State.enterOamSearch (s : State) : State :=
  let t := { s with ctl := { s.ctl with
    mode := .oamSearch
    modeDot := 0
    wyTrigger := s.wyReached
    wxTrigger := false
    coin := s.coincides } }
  (t.raiseIf (t.coincides && t.lycIe) .statIrq).raiseIf (t.cfg.statOamIrq && t.oamIe) .statIrq

/-- `EnterDraw()` (R134). -/
def State.enterDraw (s : State) : State :=
  { s with
    ctl := { s.ctl with mode := .draw, modeDot := 0, drawLen := 172, hblankLen := 204, wxTrigger := wxReached 0 s.reg.wx }
    lx := 0
    bg := { s.bg with
      queue := []
      stage := .getTile
      stageDot := 0
      fetchX := 0
      stall := 0
      inWindow := false
      discardPending := true
      suspended := false }
    sp := { s.sp with queue := [], stage := .idle, pre := 0, s1Dots := 0, s3Dots := 0, extraDone := false } }

/-- `OamSearchDot()` (R133). -/
def State.oamSearchDot (s : State) : State :=
  if s.ctl.modeDot = Config.oamSearchDots then s.collectSprites.enterDraw else s

/-- `EnterHBlank()` (R137). -/
def State.enterHBlank (s : State) : State :=
  State.raiseIf { s with ctl := { s.ctl with mode := .hBlank, modeDot := 0, hblankCopied := false } } s.hblankIe .statIrq

/-- The last dot of DRAW (R135): record the elapsed dots and go to H_BLANK. -/
def State.endDraw (s : State) : State :=
  State.enterHBlank { s with ctl := { s.ctl with drawLen := s.ctl.modeDot, hblankLen := Config.drawHblankDots - s.ctl.modeDot } }

/-- `DrawDot()` (R135), on a dot that does not fault (R142): the Sprite Fetcher, and where it passes through the Background
Fetcher and the Mixer. -/
def State.drawDot (s : State) : State :=
  if s.lx = Config.screenW then s.endDraw
  else match s.spriteStep with
    | (true, t) => t
    | (false, t) => t.bgStep.mixStep

/-- `EnterVBlank()` (R140). -/
def State.enterVBlank (s : State) : State :=
  let t := { s with ctl := { s.ctl with mode := .vBlank, modeDot := 0 } }
  ((t.raise .frameReady).raise .vblankIrq).raiseIf t.vblankIe .statIrq

/-- `EndOfLine()` (R139). -/
def State.endOfLine (s : State) : State :=
  let t := { s with ctl := { s.ctl with
    winLine := if s.bg.inWindow then s.ctl.winLine + 1#8 else s.ctl.winLine
    ly := s.ctl.ly + 1#8 } }
  if t.ctl.ly = BitVec.ofNat 8 Config.screenH then t.enterVBlank else t.enterOamSearch

/-- `HBlankDot()` (R138). -/
def State.hblankDot (s : State) : State :=
  let t := s.vdmaHblankCopy
  if t.ctl.modeDot = t.ctl.hblankLen then t.endOfLine else t

/-- `VBlankDot()` (R141): the reset at dot 4560 wins over the increment. -/
def State.vblankDot (s : State) : State :=
  if s.ctl.modeDot = Config.vblankDots then
    State.enterOamSearch { s with ctl := { s.ctl with ly := 0#8, winLine := 0#8, drawLen := 172, hblankLen := 204 } }
  else if s.ctl.modeDot % Config.lineDots = 0 then { s with ctl := { s.ctl with ly := s.ctl.ly + 1#8 } }
  else s

/-- `ControllerStep()` (R131): the mode that holds at the start of the dot. -/
def State.controllerStep (s : State) : State :=
  let t := { s with ctl := { s.ctl with modeDot := s.ctl.modeDot + 1 } }
  match s.ctl.mode with
  | .oamSearch => t.oamSearchDot
  | .draw => t.drawDot
  | .hBlank => t.hblankDot
  | .vBlank => t.vblankDot

/-- The condition of the model fault `DrawOverrun`: this `TICK` would be the 376th dot of DRAW (R142, R331). -/
def State.drawOverruns (s : State) : Bool := s.lcdEn && s.ctl.mode == .draw && decide (375 < s.ctl.modeDot + 1)

/-- `LcdDisable()` (R144). -/
def State.lcdDisable (s : State) : State :=
  { s with
    ctl := { s.ctl with
      mode := .oamSearch
      modeDot := 0
      ly := 0#8
      winLine := 0#8
      drawLen := 172
      hblankLen := 204
      wyTrigger := false
      wxTrigger := false
      hblankCopied := false }
    bg := { s.bg with
      inWindow := false
      queue := []
      stage := .getTile
      stageDot := 0
      fetchX := 0
      stall := 0
      discardPending := false
      suspended := false }
    sp := { s.sp with queue := [], line := [], stage := .idle, pre := 0, extraDone := false }
    lx := 0 }

/-- `LcdEnable()` (R145). -/
def State.lcdEnable (s : State) : State := s.enterOamSearch

/-- The effect of a `TICK` that does not fault (R130, R81): the controller if the display is on, then the OAM DMA Engine, then
the VRAM DMA Engine's counter. -/
def State.dot (s : State) : State :=
  let t := if s.lcdEn then s.controllerStep else s
  t.oamDmaTick.vdmaTick

/-- `TICK` (R130). `DrawOverrun` is detected first (R331). -/
def execTick (s : State) : Host.Outcome State Fault Refusal :=
  if s.drawOverruns then .fault .drawOverrun else .next s.quiet.dot.countSignals

end Sys2Proof.Machine
end

