-- ==== Sys2Proof/Machine/RegisterOps.lean ====
section
/-! DEFINITION. The host operations `RD.<name>` and `WR.<name>` (spec/46_register_ops.md R260 to R309), one meaning each, over
the register write rules, and the bus contract for writes (20_memory.md R72). -/

namespace Sys2Proof.Machine

/-- What a write to a color-mode register does: `t`, or nothing in monochrome (R116, D30). -/
def State.cgbWrite (s t : State) : State := if s.cfg.cgbMode then t else s

/-- `WR.LCDC` (R261): store, then disable or enable the controller on an edge of bit 7. -/
def State.writeLcdc (s : State) (d : Byte) : State :=
  let t := { s with reg := { s.reg with lcdc := d } }
  if s.lcdEn && !d.getLsbD 7 then t.lcdDisable else if !s.lcdEn && d.getLsbD 7 then t.lcdEnable else t

/-- The index after a palette data write: one further, modulo 64, when the increment bit is set (R299). -/
def nextPaletteIndex (inc : Bool) (i : BitVec 6) : BitVec 6 := if inc then i + 1#6 else i

/-- `WR.BCPD` (R299), color mode only. -/
def State.writeBcpd (s : State) (d : Byte) : State :=
  let t := s.poke .bgpal s.reg.bcpsIdx.toNat d
  s.cgbWrite { t with reg := { t.reg with bcpsIdx := nextPaletteIndex s.reg.bcpsInc s.reg.bcpsIdx } }

/-- `WR.OCPD` (R303), color mode only. -/
def State.writeOcpd (s : State) (d : Byte) : State :=
  let t := s.poke .objpal s.reg.ocpsIdx.toNat d
  s.cgbWrite { t with reg := { t.reg with ocpsIdx := nextPaletteIndex s.reg.ocpsInc s.reg.ocpsIdx } }

/-- `WR.STAT` (R263): `stat_ie <- d[6:3]`; the other bits of `d` are ignored and no interrupt is raised. -/
def State.writeStat (s : State) (d : Byte) : State := { s with reg := { s.reg with statIe := d.extractLsb' 3 4 } }

/-- `WR.SCY` (R265): `SCY <- d`. -/
def State.writeScy (s : State) (d : Byte) : State := { s with reg := { s.reg with scy := d } }

/-- `WR.SCX` (R267): `SCX <- d`. -/
def State.writeScx (s : State) (d : Byte) : State := { s with reg := { s.reg with scx := d } }

/-- `WR.LY` (R269): ignored, nothing changes. -/
def State.writeLy (s : State) (_d : Byte) : State := s

/-- `WR.LYC` (R271): `LYC <- d`. -/
def State.writeLyc (s : State) (d : Byte) : State := { s with reg := { s.reg with lyc := d } }

/-- `WR.DMA` (R273): `OamDmaStart(d)`. -/
def State.writeDma (s : State) (d : Byte) : State := s.oamDmaStart d

/-- `WR.BGP` (R275): `BGP <- d`. -/
def State.writeBgp (s : State) (d : Byte) : State := { s with reg := { s.reg with bgp := d } }

/-- `WR.OBP0` (R277): `OBP0 <- d`. -/
def State.writeObp0 (s : State) (d : Byte) : State := { s with reg := { s.reg with obp0 := d } }

/-- `WR.OBP1` (R279): `OBP1 <- d`. -/
def State.writeObp1 (s : State) (d : Byte) : State := { s with reg := { s.reg with obp1 := d } }

/-- `WR.WY` (R281): `WY <- d`. -/
def State.writeWy (s : State) (d : Byte) : State := { s with reg := { s.reg with wy := d } }

/-- `WR.WX` (R283): `WX <- d`. -/
def State.writeWx (s : State) (d : Byte) : State := { s with reg := { s.reg with wx := d } }

/-- `WR.VBK` (R285): `vbk <- d[0]`, color mode only. -/
def State.writeVbk (s : State) (d : Byte) : State := s.cgbWrite { s with reg := { s.reg with vbk := d.extractLsb' 0 1 } }

/-- `WR.HDMA1` (R287): `HDMA1 <- d`, color mode only. -/
def State.writeHdma1 (s : State) (d : Byte) : State := s.cgbWrite { s with reg := { s.reg with hdma1 := d } }

/-- `WR.HDMA2` (R289): `HDMA2 <- d`, color mode only. -/
def State.writeHdma2 (s : State) (d : Byte) : State := s.cgbWrite { s with reg := { s.reg with hdma2 := d } }

/-- `WR.HDMA3` (R291): `HDMA3 <- d`, color mode only. -/
def State.writeHdma3 (s : State) (d : Byte) : State := s.cgbWrite { s with reg := { s.reg with hdma3 := d } }

/-- `WR.HDMA4` (R293): `HDMA4 <- d`, color mode only. -/
def State.writeHdma4 (s : State) (d : Byte) : State := s.cgbWrite { s with reg := { s.reg with hdma4 := d } }

/-- `WR.HDMA5` (R295): `VdmaWrite(d)`, color mode only. -/
def State.writeHdma5 (s : State) (d : Byte) : State := s.cgbWrite (s.vdmaWrite d)

/-- `WR.BCPS` (R297): index and increment bit, color mode only. -/
def State.writeBcps (s : State) (d : Byte) : State := s.cgbWrite { s with reg := { s.reg with bcpsIdx := paletteIndexField d, bcpsInc := d.getLsbD 7 } }

/-- `WR.OCPS` (R301): index and increment bit, color mode only. -/
def State.writeOcps (s : State) (d : Byte) : State := s.cgbWrite { s with reg := { s.reg with ocpsIdx := paletteIndexField d, ocpsInc := d.getLsbD 7 } }

/-- The store of `WR.VRAM` (R305), before gating. -/
def State.writeVram (s : State) (a : Addr) (d : Byte) : State := s.vramWrite s.reg.vbk a.toNat d

/-- The store of `WR.OAM` (R307), before gating. -/
def State.writeOam (s : State) (a : Addr) (d : Byte) : State := s.oamWrite (oamIndex a) d

/-- The store of `WR.MEM` (R309). -/
def State.writeMem (s : State) (a : Addr) (d : Byte) : State := s.poke .ext a.toNat d

/-- `Dispatch_write` (R72). -/
def State.dispatchWrite (s : State) (a : Addr) (d : Byte) : State :=
  match busTarget a with
  | .lcdc => s.writeLcdc d
  | .stat => s.writeStat d
  | .scy => s.writeScy d
  | .scx => s.writeScx d
  | .ly => s.writeLy d
  | .lyc => s.writeLyc d
  | .dma => s.writeDma d
  | .bgp => s.writeBgp d
  | .obp0 => s.writeObp0 d
  | .obp1 => s.writeObp1 d
  | .wy => s.writeWy d
  | .wx => s.writeWx d
  | .vbk => s.writeVbk d
  | .hdma1 => s.writeHdma1 d
  | .hdma2 => s.writeHdma2 d
  | .hdma3 => s.writeHdma3 d
  | .hdma4 => s.writeHdma4 d
  | .hdma5 => s.writeHdma5 d
  | .bcps => s.writeBcps d
  | .bcpd => s.writeBcpd d
  | .ocps => s.writeOcps d
  | .ocpd => s.writeOcpd d
  | .vram => s.writeVram a d
  | .oam => s.writeOam a d
  | .mem => s.writeMem a d

/-- `BusWrite(addr, v, bypass)` (R72): a gated access without bypass is dropped. -/
def State.busWrite (s : State) (a : Addr) (d : Byte) (bypass : Bool) : State :=
  if !bypass && s.gated a then s else s.dispatchWrite a d

/-- `RD.LCDC` (R260). -/
def execRdLcdc (s : State) : Host.Outcome State Fault Refusal := .next (s.answer s.reg.lcdc)

/-- `WR.LCDC` (R261): the one `WR` that can raise a signal. -/
def execWrLcdc (d : Byte) (s : State) : Host.Outcome State Fault Refusal := .next (s.quiet.writeLcdc d).countSignals

/-- `RD.STAT` (R262). -/
def execRdStat (s : State) : Host.Outcome State Fault Refusal := .next (s.answer s.statByte)

/-- `WR.STAT` (R263). -/
def execWrStat (d : Byte) (s : State) : Host.Outcome State Fault Refusal := .next (s.quiet.writeStat d)

/-- `RD.SCY` (R264). -/
def execRdScy (s : State) : Host.Outcome State Fault Refusal := .next (s.answer s.reg.scy)

/-- `WR.SCY` (R265). -/
def execWrScy (d : Byte) (s : State) : Host.Outcome State Fault Refusal := .next (s.quiet.writeScy d)

/-- `RD.SCX` (R266). -/
def execRdScx (s : State) : Host.Outcome State Fault Refusal := .next (s.answer s.reg.scx)

/-- `WR.SCX` (R267). -/
def execWrScx (d : Byte) (s : State) : Host.Outcome State Fault Refusal := .next (s.quiet.writeScx d)

/-- `RD.LY` (R268). -/
def execRdLy (s : State) : Host.Outcome State Fault Refusal := .next (s.answer s.ctl.ly)

/-- `WR.LY` (R269). -/
def execWrLy (d : Byte) (s : State) : Host.Outcome State Fault Refusal := .next (s.quiet.writeLy d)

/-- `RD.LYC` (R270). -/
def execRdLyc (s : State) : Host.Outcome State Fault Refusal := .next (s.answer s.reg.lyc)

/-- `WR.LYC` (R271). -/
def execWrLyc (d : Byte) (s : State) : Host.Outcome State Fault Refusal := .next (s.quiet.writeLyc d)

/-- `RD.DMA` (R272). -/
def execRdDma (s : State) : Host.Outcome State Fault Refusal := .next (s.answer s.reg.dma)

/-- `WR.DMA` (R273). -/
def execWrDma (d : Byte) (s : State) : Host.Outcome State Fault Refusal := .next (s.quiet.writeDma d)

/-- `RD.BGP` (R274). -/
def execRdBgp (s : State) : Host.Outcome State Fault Refusal := .next (s.answer s.reg.bgp)

/-- `WR.BGP` (R275). -/
def execWrBgp (d : Byte) (s : State) : Host.Outcome State Fault Refusal := .next (s.quiet.writeBgp d)

/-- `RD.OBP0` (R276). -/
def execRdObp0 (s : State) : Host.Outcome State Fault Refusal := .next (s.answer s.reg.obp0)

/-- `WR.OBP0` (R277). -/
def execWrObp0 (d : Byte) (s : State) : Host.Outcome State Fault Refusal := .next (s.quiet.writeObp0 d)

/-- `RD.OBP1` (R278). -/
def execRdObp1 (s : State) : Host.Outcome State Fault Refusal := .next (s.answer s.reg.obp1)

/-- `WR.OBP1` (R279). -/
def execWrObp1 (d : Byte) (s : State) : Host.Outcome State Fault Refusal := .next (s.quiet.writeObp1 d)

/-- `RD.WY` (R280). -/
def execRdWy (s : State) : Host.Outcome State Fault Refusal := .next (s.answer s.reg.wy)

/-- `WR.WY` (R281). -/
def execWrWy (d : Byte) (s : State) : Host.Outcome State Fault Refusal := .next (s.quiet.writeWy d)

/-- `RD.WX` (R282). -/
def execRdWx (s : State) : Host.Outcome State Fault Refusal := .next (s.answer s.reg.wx)

/-- `WR.WX` (R283). -/
def execWrWx (d : Byte) (s : State) : Host.Outcome State Fault Refusal := .next (s.quiet.writeWx d)

/-- `RD.VBK` (R284). -/
def execRdVbk (s : State) : Host.Outcome State Fault Refusal := .next (s.answer s.vbkByte)

/-- `WR.VBK` (R285). -/
def execWrVbk (d : Byte) (s : State) : Host.Outcome State Fault Refusal := .next (s.quiet.writeVbk d)

/-- `RD.HDMA1` (R286). -/
def execRdHdma1 (s : State) : Host.Outcome State Fault Refusal := .next (s.answer 0xFF#8)

/-- `WR.HDMA1` (R287). -/
def execWrHdma1 (d : Byte) (s : State) : Host.Outcome State Fault Refusal := .next (s.quiet.writeHdma1 d)

/-- `RD.HDMA2` (R288). -/
def execRdHdma2 (s : State) : Host.Outcome State Fault Refusal := .next (s.answer 0xFF#8)

/-- `WR.HDMA2` (R289). -/
def execWrHdma2 (d : Byte) (s : State) : Host.Outcome State Fault Refusal := .next (s.quiet.writeHdma2 d)

/-- `RD.HDMA3` (R290). -/
def execRdHdma3 (s : State) : Host.Outcome State Fault Refusal := .next (s.answer 0xFF#8)

/-- `WR.HDMA3` (R291). -/
def execWrHdma3 (d : Byte) (s : State) : Host.Outcome State Fault Refusal := .next (s.quiet.writeHdma3 d)

/-- `RD.HDMA4` (R292). -/
def execRdHdma4 (s : State) : Host.Outcome State Fault Refusal := .next (s.answer 0xFF#8)

/-- `WR.HDMA4` (R293). -/
def execWrHdma4 (d : Byte) (s : State) : Host.Outcome State Fault Refusal := .next (s.quiet.writeHdma4 d)

/-- `RD.HDMA5` (R294). -/
def execRdHdma5 (s : State) : Host.Outcome State Fault Refusal := .next (s.answer s.hdma5Byte)

/-- `WR.HDMA5` (R295). -/
def execWrHdma5 (d : Byte) (s : State) : Host.Outcome State Fault Refusal := .next (s.quiet.writeHdma5 d)

/-- `RD.BCPS` (R296). -/
def execRdBcps (s : State) : Host.Outcome State Fault Refusal := .next (s.answer s.bcpsByte)

/-- `WR.BCPS` (R297). -/
def execWrBcps (d : Byte) (s : State) : Host.Outcome State Fault Refusal := .next (s.quiet.writeBcps d)

/-- `RD.BCPD` (R298). -/
def execRdBcpd (s : State) : Host.Outcome State Fault Refusal := .next (s.answer s.bcpdByte)

/-- `WR.BCPD` (R299). -/
def execWrBcpd (d : Byte) (s : State) : Host.Outcome State Fault Refusal := .next (s.quiet.writeBcpd d)

/-- `RD.OCPS` (R300). -/
def execRdOcps (s : State) : Host.Outcome State Fault Refusal := .next (s.answer s.ocpsByte)

/-- `WR.OCPS` (R301). -/
def execWrOcps (d : Byte) (s : State) : Host.Outcome State Fault Refusal := .next (s.quiet.writeOcps d)

/-- `RD.OCPD` (R302). -/
def execRdOcpd (s : State) : Host.Outcome State Fault Refusal := .next (s.answer s.ocpdByte)

/-- `WR.OCPD` (R303). -/
def execWrOcpd (d : Byte) (s : State) : Host.Outcome State Fault Refusal := .next (s.quiet.writeOcpd d)

/-- `RD.VRAM` (R304): gated in DRAW. -/
def execRdVram (a : Addr) (s : State) : Host.Outcome State Fault Refusal :=
  .next (s.answer (if s.gated a then 0xFF#8 else s.vramRead s.reg.vbk a.toNat))

/-- `WR.VRAM` (R305): a gated write is dropped. -/
def execWrVram (a : Addr) (d : Byte) (s : State) : Host.Outcome State Fault Refusal :=
  .next (if s.gated a then s.quiet else s.quiet.writeVram a d)

/-- `RD.OAM` (R306): gated during an OAM DMA, in OAM_SEARCH and in DRAW. -/
def execRdOam (a : Addr) (s : State) : Host.Outcome State Fault Refusal :=
  .next (s.answer (if s.gated a then 0xFF#8 else s.oamRead (oamIndex a)))

/-- `WR.OAM` (R307): a gated write is dropped. -/
def execWrOam (a : Addr) (d : Byte) (s : State) : Host.Outcome State Fault Refusal :=
  .next (if s.gated a then s.quiet else s.quiet.writeOam a d)

/-- `RD.MEM` (R308). -/
def execRdMem (a : Addr) (s : State) : Host.Outcome State Fault Refusal := .next (s.answer (s.peek .ext a.toNat))

/-- `WR.MEM` (R309). -/
def execWrMem (a : Addr) (d : Byte) (s : State) : Host.Outcome State Fault Refusal := .next (s.quiet.writeMem a d)

end Sys2Proof.Machine
end

