-- ==== Sys2Proof/Machine/Dispatch.lean ====
section
/-! DEFINITION. The meaning of each event, one arm per constructor of Instr. -/

namespace Sys2Proof.Machine

def exec (i : Instr) (s : State) : Host.Outcome State Fault Refusal :=
  match i with
  | .tick => Sys2Proof.Machine.execTick s
  | .rdLcdc => Sys2Proof.Machine.execRdLcdc s
  | .wrLcdc d => Sys2Proof.Machine.execWrLcdc d s
  | .rdStat => Sys2Proof.Machine.execRdStat s
  | .wrStat d => Sys2Proof.Machine.execWrStat d s
  | .rdScy => Sys2Proof.Machine.execRdScy s
  | .wrScy d => Sys2Proof.Machine.execWrScy d s
  | .rdScx => Sys2Proof.Machine.execRdScx s
  | .wrScx d => Sys2Proof.Machine.execWrScx d s
  | .rdLy => Sys2Proof.Machine.execRdLy s
  | .wrLy d => Sys2Proof.Machine.execWrLy d s
  | .rdLyc => Sys2Proof.Machine.execRdLyc s
  | .wrLyc d => Sys2Proof.Machine.execWrLyc d s
  | .rdDma => Sys2Proof.Machine.execRdDma s
  | .wrDma d => Sys2Proof.Machine.execWrDma d s
  | .rdBgp => Sys2Proof.Machine.execRdBgp s
  | .wrBgp d => Sys2Proof.Machine.execWrBgp d s
  | .rdObp0 => Sys2Proof.Machine.execRdObp0 s
  | .wrObp0 d => Sys2Proof.Machine.execWrObp0 d s
  | .rdObp1 => Sys2Proof.Machine.execRdObp1 s
  | .wrObp1 d => Sys2Proof.Machine.execWrObp1 d s
  | .rdWy => Sys2Proof.Machine.execRdWy s
  | .wrWy d => Sys2Proof.Machine.execWrWy d s
  | .rdWx => Sys2Proof.Machine.execRdWx s
  | .wrWx d => Sys2Proof.Machine.execWrWx d s
  | .rdVbk => Sys2Proof.Machine.execRdVbk s
  | .wrVbk d => Sys2Proof.Machine.execWrVbk d s
  | .rdHdma1 => Sys2Proof.Machine.execRdHdma1 s
  | .wrHdma1 d => Sys2Proof.Machine.execWrHdma1 d s
  | .rdHdma2 => Sys2Proof.Machine.execRdHdma2 s
  | .wrHdma2 d => Sys2Proof.Machine.execWrHdma2 d s
  | .rdHdma3 => Sys2Proof.Machine.execRdHdma3 s
  | .wrHdma3 d => Sys2Proof.Machine.execWrHdma3 d s
  | .rdHdma4 => Sys2Proof.Machine.execRdHdma4 s
  | .wrHdma4 d => Sys2Proof.Machine.execWrHdma4 d s
  | .rdHdma5 => Sys2Proof.Machine.execRdHdma5 s
  | .wrHdma5 d => Sys2Proof.Machine.execWrHdma5 d s
  | .rdBcps => Sys2Proof.Machine.execRdBcps s
  | .wrBcps d => Sys2Proof.Machine.execWrBcps d s
  | .rdBcpd => Sys2Proof.Machine.execRdBcpd s
  | .wrBcpd d => Sys2Proof.Machine.execWrBcpd d s
  | .rdOcps => Sys2Proof.Machine.execRdOcps s
  | .wrOcps d => Sys2Proof.Machine.execWrOcps d s
  | .rdOcpd => Sys2Proof.Machine.execRdOcpd s
  | .wrOcpd d => Sys2Proof.Machine.execWrOcpd d s
  | .rdVram a => Sys2Proof.Machine.execRdVram a s
  | .wrVram a d => Sys2Proof.Machine.execWrVram a d s
  | .rdOam a => Sys2Proof.Machine.execRdOam a s
  | .wrOam a d => Sys2Proof.Machine.execWrOam a d s
  | .rdMem a => Sys2Proof.Machine.execRdMem a s
  | .wrMem a d => Sys2Proof.Machine.execWrMem a d s

end Sys2Proof.Machine
end

