-- ==== Sys2Proof/Machine/Step.lean ====
section
/-! DEFINITION. One step: the block executes the first event word the host has pending (spec/00_scope.md R7, R8). -/

namespace Sys2Proof.Machine

/-- One step (log entry 1): take the first pending event word, decode it, run it. A word that spells no event is refused
(30_encoding.md R103). How the sequence goes on after a refused word the spec leaves open; the refusal answers no state, so the
word stays first and those behind it are not run unless the host removes it (DESIGN CHOICE, safe: log entry 18). With no event
pending nothing happens. -/
def step (s : State) : Host.Outcome State Fault Refusal :=
  match s.events with
  | [] => .next s
  | w :: rest =>
    match decode w with
    | .error why => .refused (.notAnEvent why)
    | .ok i => exec i { s with events := rest }

/-- The host issues the word that the low `nbits` bits of `w` spell as the next event, before those already pending. -/
def State.withFetchWord (s : State) (nbits w : Nat) : State :=
  { s with events := BitVec.ofNat 32 (w % 2 ^ nbits) :: s.events }

end Sys2Proof.Machine
end

