-- ==== Sys2Proof/Safety.lean ====
section
/-! DEFINITION. What claims about the machine are stated in: completion of an event, the invariants of a run, the place of a
dot in its line and frame, and the budget that bounds DRAW. -/

namespace Sys2Proof.Machine

/-- Event `i` answers a next state from `s`, and that state meets `P`. -/
def Completes (i : Instr) (s : State) (P : State → Prop) : Prop := ∃ t, exec i s = .next t ∧ P t

/-- The empty signal set, written out. -/
def noSignals : Signals := { vblankIrq := false, statIrq := false, frameReady := false }

/-- The state after a `RD` that answered `r`: only the answer differs (R77). -/
def State.withAnswer (s : State) (r : Byte) : State := { s with out := { signals := noSignals, data := some r } }

/-- The state after an event that answered nothing and raised nothing. -/
def State.silent (s : State) : State := { s with out := { signals := noSignals, data := none } }

/-- The state after an event that raised the set `g`, counted (R45). -/
def State.withSignals (s : State) (g : Signals) : State :=
  { s with
    out := { signals := g, data := none }
    cnt :=
      { vblankIrq := s.cnt.vblankIrq + (if g.vblankIrq then 1 else 0)
        statIrq := s.cnt.statIrq + (if g.statIrq then 1 else 0)
        frameReady := s.cnt.frameReady + (if g.frameReady then 1 else 0) } }

/-- The answer and the counters of `t` are those of an event at `s` that raised the set `g`. -/
def Raised (s t : State) (g : Signals) : Prop :=
  t.out = (s.withSignals g).out ∧ t.cnt = (s.withSignals g).cnt

/-- The renderer's part of two states is the same, but for the controller's own registers: fetchers, cursor, framebuffer. -/
def SameRenderer (s t : State) : Prop := t.bg = s.bg ∧ t.sp = s.sp ∧ t.lx = s.lx ∧ t.mem.fb = s.mem.fb

/-- Every byte of every memory reads the same. -/
def SameBytes (s t : State) : Prop := ∀ sp a, t.peek sp a = s.peek sp a

/-- Every byte reads the same but for those of space `sp` whose address meets `P`. -/
def SameBytesExcept (s t : State) (sp : Space) (P : Nat → Prop) : Prop :=
  ∀ sp' a, ¬(sp' = sp ∧ P a) → t.peek sp' a = s.peek sp' a

/-- The address of byte `j` of a VRAM DMA copy to `dst`: the destination wraps inside video memory (R246). -/
def vdmaCell (dst j : Nat) : Nat := 0x8000 + (dst + j) % 0x2000

/-- In `t` the `n` bytes from `dst` in bank `vbk` are what an ascending byte copy from `src`, begun in `u`, leaves there (R246):
byte `j` is what the block's own read of its source address gives before byte `j` is written. That is the byte `u` answers
(a register, `oam`, the bus collaborator's, or `vram` bank `vbk`), but for a `vram` source that byte `i < j` of the same copy has
already written, which gives byte `i`. -/
def CopiedBytes (u t : State) (src dst n : Nat) : Prop :=
  ∀ (j : Nat) (a : Addr), j < n → a = BitVec.ofNat 16 (src + j) →
    (busTarget a ≠ .vram → t.peek (vramSpace u.reg.vbk) (vdmaCell dst j) = u.memRead a) ∧
    (busTarget a = .mem → t.peek (vramSpace u.reg.vbk) (vdmaCell dst j) = u.peek .ext a.toNat) ∧
    (busTarget a = .oam → t.peek (vramSpace u.reg.vbk) (vdmaCell dst j) = u.peek .oam (a.toNat - 0xFE00)) ∧
    (busTarget a = .vram → (∀ i < j, vdmaCell dst i ≠ a.toNat) →
      t.peek (vramSpace u.reg.vbk) (vdmaCell dst j) = u.peek (vramSpace u.reg.vbk) a.toNat) ∧
    (∀ i < j, vdmaCell dst i = a.toNat →
      t.peek (vramSpace u.reg.vbk) (vdmaCell dst j) = t.peek (vramSpace u.reg.vbk) (vdmaCell dst i))

/-- The display is on and the controller is in DRAW with a dot left before the fault and pixels left to output. -/
def State.drawing (s : State) : Prop := s.lcdEn = true ∧ s.ctl.mode = .draw ∧ s.ctl.modeDot < 375 ∧ s.lx ≠ 160

/-- `n` consecutive `TICK`s (R115 `TICKS n`), if none faults. -/
def ticks : Nat → State → Option State
  | 0, s => some s
  | n + 1, s =>
    match exec .tick s with
    | .next t => ticks n t
    | .fault _ => none
    | .refused _ => none

/-- The state with another framebuffer. -/
def State.setFb (s : State) (fb : Memory Color15) : State := { s with mem := { s.mem with fb := fb } }

/-- Every address of a memory lies in `lo` to `hi - 1`. -/
def Memory.within {α : Type} (m : Memory α) (lo hi : Nat) : Prop := ∀ p ∈ m, lo ≤ p.1 ∧ p.1 < hi

/-- Every memory has the canonical form, and every byte memory only the addresses R49 and R70 give it; `fbInv` bounds the
framebuffer. -/
def State.memInv (s : State) : Prop :=
  (s.mem.ext.wf ∧ s.mem.ext.within 0 0x10000) ∧
  (s.mem.vram0.wf ∧ s.mem.vram0.within 0x8000 0xA000) ∧
  (s.mem.vram1.wf ∧ s.mem.vram1.within 0x8000 0xA000) ∧
  (s.mem.oam.wf ∧ s.mem.oam.within 0 0xA0) ∧
  (s.mem.bgpal.wf ∧ s.mem.bgpal.within 0 64) ∧
  (s.mem.objpal.wf ∧ s.mem.objpal.within 0 64) ∧
  s.mem.fb.wf

/-- The framebuffer has only the 144 x 160 cells of R44 and R70. -/
def State.fbInv (s : State) : Prop := s.mem.fb.within 0 (144 * 160)

/-- Where the controller can be between two events (R34, R142, R143): the line and dot of each mode, and line 0 dot 0 of
OAM_SEARCH while the display is off (R144). -/
def State.lineInv (s : State) : Prop :=
  (match s.ctl.mode with
    | .oamSearch => s.ctl.ly.toNat ≤ 143 ∧ s.ctl.modeDot < 80
    | .draw => s.ctl.ly.toNat ≤ 143 ∧ s.ctl.modeDot ≤ 375
    | .hBlank => s.ctl.ly.toNat ≤ 143 ∧ s.ctl.modeDot < s.ctl.hblankLen ∧ s.ctl.drawLen + s.ctl.hblankLen = 376
    | .vBlank => s.ctl.modeDot < 4560 ∧ s.ctl.ly.toNat = 144 + s.ctl.modeDot / 456) ∧
  (s.lcdEn = false → s.ctl.mode = .oamSearch ∧ s.ctl.modeDot = 0 ∧ s.ctl.ly = 0#8)

/-- The bounds of the fetcher, the queues and the cursor (R37, R39, R42, R43). -/
def State.queueInv (s : State) : Prop :=
  s.bg.queue.length ≤ 16 ∧ s.sp.queue.length ≤ 8 ∧ s.lx ≤ 160 ∧ s.bg.stage ≠ .push ∧ s.bg.stageDot ≤ 1 ∧ s.bg.stall = 0 ∧
  s.bg.tileBytes.length = 16 ∧ (s.bg.discardPending = true → s.bg.queue = [])

/-- The sprites of the line and the fetch in progress (R40, R41): a fetch names an entry not yet processed. -/
def State.spriteInv (s : State) : Prop :=
  s.sp.line.length ≤ 10 ∧ (∀ e ∈ s.sp.line, e.idx < 40 ∧ e.sx ≤ 160) ∧ s.sp.pre ≤ 7 ∧
  (s.sp.stage = .stage1 ∨ s.sp.stage = .stage2 → s.sp.s3Dots = 0) ∧ (s.sp.stage = .stage3 → s.sp.s3Dots ≤ 2) ∧
  (s.sp.stage ≠ .idle → ∃ e, s.sp.line[s.sp.cur]? = some e ∧ e.done = false)

/-- The DMA engines (R46, R47, R76): counters and addresses in range, remaining blocks and length field in step. -/
def State.dmaInv (s : State) : Prop :=
  (s.odma.dots ≤ 640 ∧ (s.odma.active = true → s.odma.dots < 640) ∧ s.odma.src.toNat % 256 = 0) ∧
  (0x8000 ≤ s.vdma.dst.toNat ∧ s.vdma.dst.toNat ≤ 0x9FFF ∧ s.vdma.dst.toNat % 16 = 0 ∧ s.vdma.src.toNat % 16 = 0) ∧
  s.vdma.blocks ≤ 128 ∧
  (s.vdma.mode = .hblank → s.vdma.blocks = s.vdma.len.toNat + 1) ∧
  (s.vdma.mode = .general → s.vdma.blocks = 0 ∧ s.vdma.dots < s.vdma.threshold)

/-- In monochrome no colour-mode state leaves its reset value and no background pixel has a priority bit (R249, R368, R169). -/
def State.monoInv (s : State) : Prop :=
  s.cfg.cgbMode = false →
    s.reg.vbk = 0#1 ∧ s.reg.hdma1 = 0#8 ∧ s.reg.hdma2 = 0#8 ∧ s.reg.hdma3 = 0#8 ∧ s.reg.hdma4 = 0#8 ∧
    s.reg.bcpsIdx = 0#6 ∧ s.reg.bcpsInc = false ∧ s.reg.ocpsIdx = 0#6 ∧ s.reg.ocpsInc = false ∧
    s.vdma = VramDma.reset ∧ s.mem.vram1 = [] ∧ s.mem.bgpal = [] ∧ s.mem.objpal = [] ∧ s.bg.tileAttr = 0#8 ∧
    ∀ p ∈ s.bg.queue, p.bgToOam = false ∧ p.pal = 0#3

/-- The dots the Background Fetcher has spent on its current tile. -/
def State.fetchSpent (s : State) : Nat :=
  match s.bg.stage with
  | .getTile => s.bg.stageDot
  | .getTileDataLow => 2 + s.bg.stageDot
  | .getTileDataHigh => 4 + s.bg.stageDot
  | .sleep => 6
  | .push => 6

/-- The fetcher dots until the next push is tried, counting that dot. -/
def State.fetchLeft (s : State) : Nat := if s.bg.stage = .sleep ∨ s.bg.stage = .push then 1 else 6 - s.fetchSpent

/-- An upper bound of the fetcher dots to come in DRAW on which the Mixer outputs nothing: the first fill of the queue, the
scroll discard, a window entry. -/
def State.starveBudget (s : State) : Nat :=
  (if s.bg.discardPending then s.fetchLeft + 10
    else if s.bg.queue.length = 0 then s.fetchLeft + 5
    else if s.bg.queue.length ≤ 8 then (s.fetchLeft - 1) + (6 - s.bg.queue.length)
    else (s.fetchLeft - 1) - (s.bg.queue.length - 8)) +
  (if s.bg.inWindow then 0 else 12)

/-- How many sprites of the line have not been processed. -/
def State.undone (s : State) : Nat := (s.sp.line.filter fun e => !e.done).length

/-- The dots the fetch in progress still consumes, but for stage-1 dots that wait for the queue. -/
def State.fetchDotsLeft (s : State) : Nat :=
  match s.sp.stage with
  | .idle => 0
  | .stage1 => s.sp.pre + (5 - s.sp.s1Dots) + 6
  | .stage2 => s.sp.pre + 6
  | .stage3 => s.sp.pre + (3 - s.sp.s3Dots) + 2
  | .stage4 => s.sp.pre + 2
  | .stage5 => s.sp.pre + 1
  | .stage6 => 0

/-- The dots sprites can still consume (R187, R199): 11 for each not yet triggered, the rest of the current fetch, and the
column-0 extra. -/
def State.spriteBudget (s : State) : Nat :=
  11 * (s.undone - (if s.sp.stage = .idle then 0 else 1)) + s.fetchDotsLeft + (if !s.sp.extraDone && s.lx == 0 then 7 else 0)

/-- An upper bound of the dots DRAW still takes, its last one included. -/
def State.drawBudget (s : State) : Nat := 1 + (160 - s.lx) + s.starveBudget + s.spriteBudget

/-- DRAW has a bounded length: at most 306 dots in all, at least 172 (R142, R143, R146). Before the first pixel the fetcher is
no further than its dots allow; after it the cursor is at least 11 dots behind. Stage 1 lasts beyond 5 dots only while the queue is empty (R189). -/
def State.drawInv (s : State) : Prop :=
  (s.ctl.mode = .draw → s.ctl.modeDot + s.drawBudget ≤ 306 ∧
    (if s.lx = 0 then s.bg.queue.length ≤ 8 * s.bg.fetchX ∧ 6 * s.bg.fetchX + s.fetchSpent ≤ s.ctl.modeDot
      else s.lx + 11 ≤ s.ctl.modeDot)) ∧
  (s.ctl.mode = .hBlank → 172 ≤ s.ctl.drawLen ∧ s.ctl.drawLen ≤ 306) ∧
  (s.sp.stage = .stage1 → 5 ≤ s.sp.s1Dots → s.bg.queue = [])

/-- All invariants of a run together. -/
def State.inv (s : State) : Prop :=
  s.memInv ∧ s.fbInv ∧ s.lineInv ∧ s.queueInv ∧ s.spriteInv ∧ s.dmaInv ∧ s.monoInv ∧ s.drawInv

/-- The dot of the line, 0 to 455 (R143). -/
def State.lineDot (s : State) : Nat :=
  match s.ctl.mode with
  | .oamSearch => s.ctl.modeDot
  | .draw => 80 + s.ctl.modeDot
  | .hBlank => 80 + s.ctl.drawLen + s.ctl.modeDot
  | .vBlank => s.ctl.modeDot % 456

/-- The dot of the frame, 0 to 70223 (R143). -/
def State.frameDot (s : State) : Nat := 456 * s.ctl.ly.toNat + s.lineDot

end Sys2Proof.Machine
end

