-- ==== Sys2Proof/Certificates/Slice0/Obligations.lean ====
section
/-! DEFINITION. The statements for the provers; each docstring names the rules of spec/ it rests on. -/

open Sys2Proof Sys2Proof.Machine

/-! ### Encoding -/

/-- R100 to R102: decoding the word of a well-formed event gives the event back, with every operand value. -/
def Obligations.DecodeUndoesEncode : Prop := ∀ i : Instr, i.wf = true → decode (encode i) = .ok i

/-- R100 to R103: a word that decodes, decodes to a well-formed event whose word it is; no bit is dropped. -/
def Obligations.EncodeUndoesDecode : Prop :=
  ∀ (w : EventWord) (i : Instr), decode w = .ok i → i.wf = true ∧ encode i = w

/-- R103, first sentence: exactly the listed words spell no event, and a step refuses them. That the refusal answers no state,
so that the words behind are not run, is the model's choice (log entry 18). -/
def Obligations.RefusedWordsExactly : Prop :=
  ∀ w : EventWord,
    ((∃ why, decode w = .error why) ↔
      (w.toNat / 2 ^ 30 = 3 ∨ w.toNat / 2 ^ 24 % 2 ^ 6 ≠ 0 ∨
        (w.toNat / 2 ^ 30 = 0 ∧ (w.toNat / 2 ^ 8 % 2 ^ 16 ≠ 0 ∨ w.toNat % 2 ^ 8 ≠ 0)) ∨
        (w.toNat / 2 ^ 30 = 1 ∧ w.toNat % 2 ^ 8 ≠ 0))) ∧
    (∀ why, decode w = .error why → ∀ (s : State) (rest : List EventWord),
      step { s with events := w :: rest } = .refused (.notAnEvent why))

/-- R100, R102: words written out from the encoding (95_test_vectors.md T1). -/
def Obligations.SampleWordsDecode : Prop :=
  decode 0x00000000#32 = .ok .tick ∧ decode 0x40FF4000#32 = .ok .rdLcdc ∧ decode 0x80FF4091#32 = .ok (.wrLcdc 0x91#8) ∧
  decode 0x40FF4100#32 = .ok .rdStat ∧ decode 0x80FF43F4#32 = .ok (.wrScx 0xF4#8) ∧
  decode 0x80FF4680#32 = .ok (.wrDma 0x80#8) ∧ decode 0x80FF5582#32 = .ok (.wrHdma5 0x82#8) ∧
  decode 0x40FF5500#32 = .ok .rdHdma5 ∧ decode 0x808010FF#32 = .ok (.wrVram 0x8010#16 0xFF#8) ∧
  decode 0x409FFF00#32 = .ok (.rdVram 0x9FFF#16) ∧ decode 0x80FE0010#32 = .ok (.wrOam 0xFE00#16 0x10#8) ∧
  decode 0x40FE9F00#32 = .ok (.rdOam 0xFE9F#16) ∧ decode 0x40FEA000#32 = .ok (.rdMem 0xFEA0#16) ∧
  decode 0x80C000AB#32 = .ok (.wrMem 0xC000#16 0xAB#8) ∧ decode 0x80FF4C01#32 = .ok (.wrMem 0xFF4C#16 0x01#8) ∧
  decode 0x40A00000#32 = .ok (.rdMem 0xA000#16) ∧ decode 0x407FFF00#32 = .ok (.rdMem 0x7FFF#16)

/-- The model's step (log entry 1): the first pending word, if it spells event `i`, is taken off the queue and `i` is run;
with nothing pending nothing changes; `withFetchWord` makes a word the next one. -/
def Obligations.StepRunsDecodedEvent : Prop :=
  (∀ (s : State) (w : EventWord) (rest : List EventWord) (i : Instr),
    s.events = w :: rest → decode w = .ok i → step s = exec i { s with events := rest }) ∧
  (∀ s : State, s.events = [] → step s = .next s) ∧
  (∀ (s : State) (w : EventWord) (i : Instr), decode w = .ok i → step (s.withFetchWord 32 w.toNat) = exec i s)

/-! ### The bus contract and gating -/

/-- R72: every word `RD a` is an event; it answers 0xFF where the address is gated and else what the block's own read of
`a` gives, and changes nothing else (R77). -/
def Obligations.HostReadIsGatedBusRead : Prop :=
  ∀ a : Addr, ∃ i, decode (0x40000000#32 ||| (a.setWidth 32 <<< 8)) = .ok i ∧
    ∀ s : State, exec i s = .next (s.withAnswer (if s.gated a then 0xFF#8 else s.memRead a))

/-- R72: every word `WR a, d` is an event; it does nothing where the address is gated and else what the block's own write
of `d` to `a` does; the signals it raises are its answer (R45). -/
def Obligations.HostWriteIsGatedBusWrite : Prop :=
  ∀ (a : Addr) (d : Byte), ∃ i, decode (0x80000000#32 ||| (a.setWidth 32 <<< 8) ||| d.setWidth 32) = .ok i ∧
    ∀ s : State, ∃ t, exec i s = .next t ∧
      (s.gated a = true → t = s.silent) ∧
      (s.gated a = false → t = (s.silent.busWrite a d true).withSignals (s.silent.busWrite a d true).out.signals)

/-- R74: the gated addresses, exactly. -/
def Obligations.GatedExactly : Prop :=
  ∀ (s : State) (a : Addr), s.gated a = true ↔
    ((s.odma.active = true ∧ 0xFE00 ≤ a.toNat ∧ a.toNat ≤ 0xFE9F) ∨
     (s.reg.lcdc.getLsbD 7 = true ∧ s.ctl.mode = .draw ∧
        ((0x8000 ≤ a.toNat ∧ a.toNat ≤ 0x9FFF) ∨ (0xFE00 ≤ a.toNat ∧ a.toNat ≤ 0xFE9F))) ∨
     (s.reg.lcdc.getLsbD 7 = true ∧ s.ctl.mode = .oamSearch ∧ 0xFE00 ≤ a.toNat ∧ a.toNat ≤ 0xFE9F))

/-! ### Host reads -/

/-- R260, R264, R266, R268, R270, R274, R276, R278, R280, R282: the word of each read and the byte it answers. That DMA reads
back (R272) is the spec's decision D27. -/
def Obligations.StoredRegisterReads : Prop :=
  ∀ s : State,
    (decode 0x40FF4000#32 = .ok .rdLcdc ∧ exec .rdLcdc s = .next (s.withAnswer s.reg.lcdc)) ∧
    (decode 0x40FF4200#32 = .ok .rdScy ∧ exec .rdScy s = .next (s.withAnswer s.reg.scy)) ∧
    (decode 0x40FF4300#32 = .ok .rdScx ∧ exec .rdScx s = .next (s.withAnswer s.reg.scx)) ∧
    (decode 0x40FF4400#32 = .ok .rdLy ∧ exec .rdLy s = .next (s.withAnswer s.ctl.ly)) ∧
    (decode 0x40FF4500#32 = .ok .rdLyc ∧ exec .rdLyc s = .next (s.withAnswer s.reg.lyc)) ∧
    (decode 0x40FF4600#32 = .ok .rdDma ∧ exec .rdDma s = .next (s.withAnswer s.reg.dma)) ∧
    (decode 0x40FF4700#32 = .ok .rdBgp ∧ exec .rdBgp s = .next (s.withAnswer s.reg.bgp)) ∧
    (decode 0x40FF4800#32 = .ok .rdObp0 ∧ exec .rdObp0 s = .next (s.withAnswer s.reg.obp0)) ∧
    (decode 0x40FF4900#32 = .ok .rdObp1 ∧ exec .rdObp1 s = .next (s.withAnswer s.reg.obp1)) ∧
    (decode 0x40FF4A00#32 = .ok .rdWy ∧ exec .rdWy s = .next (s.withAnswer s.reg.wy)) ∧
    (decode 0x40FF4B00#32 = .ok .rdWx ∧ exec .rdWx s = .next (s.withAnswer s.reg.wx))

/-- R262: RD.STAT answers `0x80 | stat_ie << 3 | coin << 2 | m` with m the mode number, 0 while the display is off. -/
def Obligations.StatReadBits : Prop :=
  ∀ s : State, ∃ r : Byte, exec .rdStat s = .next (s.withAnswer r) ∧
    r.toNat = 0x80 + 8 * s.reg.statIe.toNat + (if s.ctl.coin then 4 else 0) +
      (if s.reg.lcdc.getLsbD 7 then
        (match s.ctl.mode with
          | .hBlank => 0
          | .vBlank => 1
          | .oamSearch => 2
          | .draw => 3)
       else 0)

/-- R298, R302, and by the spec's decisions R284 (D37), R286, R288, R290, R292, R294 (D28), R296, R300 (D3) and the 0xFF of
monochrome (D30): the reads of the color-mode registers in both variants. -/
def Obligations.ColorRegisterReads : Prop :=
  ∀ s : State,
    exec .rdVbk s = .next (s.withAnswer (if s.cfg.cgbMode = true ∧ s.reg.vbk = 0#1 then 0xFE#8 else 0xFF#8)) ∧
    exec .rdHdma1 s = .next (s.withAnswer 0xFF#8) ∧ exec .rdHdma2 s = .next (s.withAnswer 0xFF#8) ∧
    exec .rdHdma3 s = .next (s.withAnswer 0xFF#8) ∧ exec .rdHdma4 s = .next (s.withAnswer 0xFF#8) ∧
    exec .rdHdma5 s = .next (s.withAnswer (if s.cfg.cgbMode then
      BitVec.ofNat 8 ((if s.vdma.mode = .idle then 0x80 else 0) + s.vdma.len.toNat) else 0xFF#8)) ∧
    exec .rdBcps s = .next (s.withAnswer (if s.cfg.cgbMode then
      BitVec.ofNat 8 ((if s.reg.bcpsInc then 0x80 else 0) + 0x40 + s.reg.bcpsIdx.toNat) else 0xFF#8)) ∧
    exec .rdBcpd s = .next (s.withAnswer (if s.cfg.cgbMode then s.peek .bgpal s.reg.bcpsIdx.toNat else 0xFF#8)) ∧
    exec .rdOcps s = .next (s.withAnswer (if s.cfg.cgbMode then
      BitVec.ofNat 8 ((if s.reg.ocpsInc then 0x80 else 0) + 0x40 + s.reg.ocpsIdx.toNat) else 0xFF#8)) ∧
    exec .rdOcpd s = .next (s.withAnswer (if s.cfg.cgbMode then s.peek .objpal s.reg.ocpsIdx.toNat else 0xFF#8))

/-- R304, R306, R308: RD.VRAM, RD.OAM and RD.MEM answer the byte, or 0xFF where the access is gated. The clause of RD.MEM is
R308 where `a.isMem`; on an address of another row, which no word decodes to, it is the model's choice (log entry 12). -/
def Obligations.MemoryReads : Prop :=
  ∀ (s : State) (a : Addr),
    (a.isVram = true → exec (.rdVram a) s = .next (s.withAnswer (if s.reg.lcdc.getLsbD 7 = true ∧ s.ctl.mode = .draw then 0xFF#8
      else s.peek (if s.reg.vbk = 0#1 then .vram0 else .vram1) a.toNat))) ∧
    (a.isOam = true → exec (.rdOam a) s = .next (s.withAnswer (if s.odma.active = true ∨
        (s.reg.lcdc.getLsbD 7 = true ∧ (s.ctl.mode = .oamSearch ∨ s.ctl.mode = .draw)) then 0xFF#8
      else s.peek .oam (a.toNat - 0xFE00)))) ∧
    exec (.rdMem a) s = .next (s.withAnswer (s.peek .ext a.toNat))

/-! ### Host writes -/

/-- R261 without an edge of bit 7, R265, R267, R269, R271, R275, R277, R279, R281, R283: the register holds the byte (LY
ignores it) and nothing else changes. -/
def Obligations.StoredRegisterWrites : Prop :=
  ∀ (s : State) (d : Byte),
    (d.getLsbD 7 = s.reg.lcdc.getLsbD 7 →
      exec (.wrLcdc d) s = .next { s.silent with reg := { s.reg with lcdc := d } }) ∧
    exec (.wrScy d) s = .next { s.silent with reg := { s.reg with scy := d } } ∧
    exec (.wrScx d) s = .next { s.silent with reg := { s.reg with scx := d } } ∧
    exec (.wrLy d) s = .next s.silent ∧
    exec (.wrLyc d) s = .next { s.silent with reg := { s.reg with lyc := d } } ∧
    exec (.wrBgp d) s = .next { s.silent with reg := { s.reg with bgp := d } } ∧
    exec (.wrObp0 d) s = .next { s.silent with reg := { s.reg with obp0 := d } } ∧
    exec (.wrObp1 d) s = .next { s.silent with reg := { s.reg with obp1 := d } } ∧
    exec (.wrWy d) s = .next { s.silent with reg := { s.reg with wy := d } } ∧
    exec (.wrWx d) s = .next { s.silent with reg := { s.reg with wx := d } }

/-- R263: WR.STAT stores bits 6:3 and changes nothing else, raising nothing; in V_BLANK without coincidence a read after
writing 0xFF gives 0xF9. -/
def Obligations.StatWriteBits : Prop :=
  ∀ (s : State) (d : Byte),
    exec (.wrStat d) s = .next { s.silent with reg := { s.reg with statIe := BitVec.ofNat 4 (d.toNat / 8) } } ∧
    (d = 0xFF#8 → s.reg.lcdc.getLsbD 7 = true → s.ctl.mode = .vBlank → s.ctl.coin = false →
      ∀ t, exec (.wrStat d) s = .next t → exec .rdStat t = .next (t.withAnswer 0xF9#8))

/-- R144, R261: clearing LCDC bit 7 resets the controller, the fetchers and the cursor, and nothing else; STAT.mode and LY
then read 0 and no address is gated by mode. -/
def Obligations.DisplayOffResets : Prop :=
  ∀ (s : State) (d : Byte), s.reg.lcdc.getLsbD 7 = true → d.getLsbD 7 = false →
    Completes (.wrLcdc d) s fun t =>
      t = { s.silent with
        reg := { s.reg with lcdc := d }
        ctl := { mode := .oamSearch, modeDot := 0, ly := 0#8, drawLen := 172, hblankLen := 204, coin := s.ctl.coin,
                 wyTrigger := false, wxTrigger := false, hblankCopied := false, winLine := 0#8 }
        bg := { s.bg with stage := .getTile, stageDot := 0, fetchX := 0, stall := 0, inWindow := false, suspended := false,
                          discardPending := false, queue := [] }
        sp := { s.sp with line := [], stage := .idle, pre := 0, extraDone := false, queue := [] }
        lx := 0 } ∧
      t.statMode = 0#2 ∧ exec .rdLy t = .next (t.withAnswer 0#8) ∧ (∀ a : Addr, t.gated a = (t.odma.active && a.isOam))

/-- R145, R132, R261: setting LCDC bit 7 enters OAM_SEARCH inside the write, and the STAT interrupt it raises is the
write's own answer. -/
def Obligations.DisplayOnEntersOamSearch : Prop :=
  ∀ (s : State) (d : Byte), s.reg.lcdc.getLsbD 7 = false → d.getLsbD 7 = true →
    exec (.wrLcdc d) s = .next (State.withSignals
      { s with
        reg := { s.reg with lcdc := d }
        ctl := { s.ctl with mode := .oamSearch, modeDot := 0, wyTrigger := decide (s.reg.wy.toNat ≤ s.ctl.ly.toNat),
                            wxTrigger := false, coin := decide (s.ctl.ly = s.reg.lyc) } }
      { vblankIrq := false
        statIrq := (decide (s.ctl.ly = s.reg.lyc) && s.reg.statIe.getLsbD 3) || (s.cfg.statOamIrq && s.reg.statIe.getLsbD 2)
        frameReady := false })

/-- R230, R111, R234: WR.DMA stores the byte, latches the source and starts the count at 0, whatever the engine did. -/
def Obligations.WriteDmaStartsTransfer : Prop :=
  ∀ (s : State) (d : Byte),
    exec (.wrDma d) s = .next { s.silent with
      reg := { s.reg with dma := d }
      odma := { active := true, src := BitVec.ofNat 16 (256 * d.toNat), dots := 0 } }

/-- R285, R287, R289, R291, R293, R297, R301 in color mode: what each stores; nothing else changes. -/
def Obligations.ColorRegisterWrites : Prop :=
  ∀ (s : State) (d : Byte), s.cfg.cgbMode = true →
    exec (.wrVbk d) s = .next { s.silent with reg := { s.reg with vbk := BitVec.ofNat 1 d.toNat } } ∧
    exec (.wrHdma1 d) s = .next { s.silent with reg := { s.reg with hdma1 := d } } ∧
    exec (.wrHdma2 d) s = .next { s.silent with reg := { s.reg with hdma2 := d } } ∧
    exec (.wrHdma3 d) s = .next { s.silent with reg := { s.reg with hdma3 := d } } ∧
    exec (.wrHdma4 d) s = .next { s.silent with reg := { s.reg with hdma4 := d } } ∧
    exec (.wrBcps d) s = .next { s.silent with
      reg := { s.reg with bcpsIdx := BitVec.ofNat 6 d.toNat, bcpsInc := decide (128 ≤ d.toNat) } } ∧
    exec (.wrOcps d) s = .next { s.silent with
      reg := { s.reg with ocpsIdx := BitVec.ofNat 6 d.toNat, ocpsInc := decide (128 ≤ d.toNat) } }

/-- R299, R303 in color mode: the byte goes to the indexed entry of the palette memory, every other byte of every memory
stays, and the index moves modulo 64 when its increment bit is set. -/
def Obligations.PaletteDataWrites : Prop :=
  ∀ (s : State) (d : Byte), s.cfg.cgbMode = true →
    (Completes (.wrBcpd d) s fun t =>
      t.peek .bgpal s.reg.bcpsIdx.toNat = d ∧ SameBytesExcept s t .bgpal (· = s.reg.bcpsIdx.toNat) ∧ t.mem.fb = s.mem.fb ∧
      t = { s.silent with
        mem := t.mem
        reg := { s.reg with bcpsIdx := if s.reg.bcpsInc then BitVec.ofNat 6 (s.reg.bcpsIdx.toNat + 1) else s.reg.bcpsIdx } }) ∧
    (Completes (.wrOcpd d) s fun t =>
      t.peek .objpal s.reg.ocpsIdx.toNat = d ∧ SameBytesExcept s t .objpal (· = s.reg.ocpsIdx.toNat) ∧ t.mem.fb = s.mem.fb ∧
      t = { s.silent with
        mem := t.mem
        reg := { s.reg with ocpsIdx := if s.reg.ocpsInc then BitVec.ofNat 6 (s.reg.ocpsIdx.toNat + 1) else s.reg.ocpsIdx } })

/-- R240, R245, R112 in color mode: WR.HDMA5 is ignored while a general transfer counts, cancels or restarts an hblank
transfer, and starts one when idle; in these cases no byte is copied. -/
def Obligations.Hdma5WriteControlsHblankTransfer : Prop :=
  ∀ (s : State) (d : Byte), s.cfg.cgbMode = true →
    (s.vdma.mode = .general → exec (.wrHdma5 d) s = .next s.silent) ∧
    (s.vdma.mode = .hblank → d.getLsbD 7 = false →
      exec (.wrHdma5 d) s = .next { s.silent with vdma := { s.vdma with mode := .idle } }) ∧
    (s.vdma.mode ≠ .general → d.getLsbD 7 = true →
      Completes (.wrHdma5 d) s fun t =>
        t = { s.silent with vdma := t.vdma } ∧ t.vdma.mode = .hblank ∧
        t.vdma.src.toNat = (256 * s.reg.hdma1.toNat + s.reg.hdma2.toNat) / 16 * 16 ∧
        t.vdma.dst.toNat = 0x8000 + (256 * s.reg.hdma3.toNat + s.reg.hdma4.toNat) % 0x2000 / 16 * 16 ∧
        t.vdma.blocks = d.toNat % 128 + 1 ∧ t.vdma.len.toNat = d.toNat % 128 ∧
        t.vdma.dots = s.vdma.dots ∧ t.vdma.threshold = s.vdma.threshold)

/-- R240, R241, R246, R112 in color mode: a general transfer copies all its blocks inside the write. Byte j of the source, of
any kind, goes to byte j of the destination, wrapped inside VRAM, in bank `vbk`, as an ascending copy leaves it; no other byte
of any memory changes; the counter starts. The engine is set before the copy, so a source byte at HDMA5's own address reads
the length of the transfer just started. -/
def Obligations.GeneralTransferCopiesAtOnce : Prop :=
  ∀ (s : State) (d : Byte), s.cfg.cgbMode = true → s.vdma.mode = .idle → d.getLsbD 7 = false →
    Completes (.wrHdma5 d) s fun t =>
      t = { s.silent with vdma := t.vdma, mem := t.mem } ∧ t.mem.fb = s.mem.fb ∧
      t.vdma.mode = .general ∧ t.vdma.blocks = 0 ∧ t.vdma.dots = 0 ∧ t.vdma.threshold = 64 * (d.toNat % 128 + 1) ∧
      t.vdma.len.toNat = d.toNat % 128 ∧
      ∀ src dst n, src = (256 * s.reg.hdma1.toNat + s.reg.hdma2.toNat) / 16 * 16 →
        dst = (256 * s.reg.hdma3.toNat + s.reg.hdma4.toNat) % 0x2000 / 16 * 16 → n = 16 * (d.toNat % 128 + 1) →
        t.vdma.src.toNat = (src + n) % 0x10000 ∧ t.vdma.dst.toNat = 0x8000 + (dst + n) % 0x2000 ∧
        (∀ sp a, ¬(sp = vramSpace s.reg.vbk ∧ ∃ j < n, a = 0x8000 + (dst + j) % 0x2000) → t.peek sp a = s.peek sp a) ∧
        CopiedBytes { s with vdma := t.vdma } t src dst n

/-- R305, R307, R309: the byte is stored unless the access is gated, every other byte of every memory and everything else
stays. The clause of WR.MEM is R309 where `a.isMem`; on an address of another row, which no word decodes to, it is the model's
choice (log entry 12). -/
def Obligations.MemoryWrites : Prop :=
  ∀ (s : State) (a : Addr) (d : Byte),
    (a.isVram = true → Completes (.wrVram a d) s fun t =>
      t.peek (vramSpace s.reg.vbk) a.toNat =
        (if s.reg.lcdc.getLsbD 7 = true ∧ s.ctl.mode = .draw then s.peek (vramSpace s.reg.vbk) a.toNat else d) ∧
      SameBytesExcept s t (vramSpace s.reg.vbk) (· = a.toNat) ∧ t.mem.fb = s.mem.fb ∧ t = { s.silent with mem := t.mem }) ∧
    (a.isOam = true → Completes (.wrOam a d) s fun t =>
      t.peek .oam (a.toNat - 0xFE00) = (if s.odma.active = true ∨
          (s.reg.lcdc.getLsbD 7 = true ∧ (s.ctl.mode = .oamSearch ∨ s.ctl.mode = .draw))
        then s.peek .oam (a.toNat - 0xFE00) else d) ∧
      SameBytesExcept s t .oam (· = a.toNat - 0xFE00) ∧ t.mem.fb = s.mem.fb ∧ t = { s.silent with mem := t.mem }) ∧
    (Completes (.wrMem a d) s fun t =>
      t.peek .ext a.toNat = d ∧ SameBytesExcept s t .ext (· = a.toNat) ∧ t.mem.fb = s.mem.fb ∧
      t = { s.silent with mem := t.mem })

/-- R368, R249: in monochrome the color-mode registers ignore writes and read 0xFF, and no color-mode state leaves its
reset value in any step. -/
def Obligations.MonochromeIgnoresColorRegisters : Prop :=
  (∀ (s : State) (d : Byte), s.cfg.cgbMode = false →
    (∀ i ∈ [Instr.wrVbk d, .wrHdma1 d, .wrHdma2 d, .wrHdma3 d, .wrHdma4 d, .wrHdma5 d, .wrBcps d, .wrBcpd d, .wrOcps d, .wrOcpd d],
      exec i s = .next s.silent) ∧
    (∀ i ∈ [Instr.rdVbk, .rdHdma1, .rdHdma2, .rdHdma3, .rdHdma4, .rdHdma5, .rdBcps, .rdBcpd, .rdOcps, .rdOcpd],
      exec i s = .next (s.withAnswer 0xFF#8))) ∧
  (∀ s t : State, s.monoInv → step s = .next t → t.monoInv)

/-! ### TICK -/

/-- R142, R331: `TICK` completes but where it would be the 376th dot of DRAW, and there it faults. -/
def Obligations.TickCompletesOrOverruns : Prop :=
  ∀ s : State,
    (¬(s.reg.lcdc.getLsbD 7 = true ∧ s.ctl.mode = .draw ∧ 375 ≤ s.ctl.modeDot) → ∃ t, exec .tick s = .next t) ∧
    (s.reg.lcdc.getLsbD 7 = true → s.ctl.mode = .draw → 375 ≤ s.ctl.modeDot → exec .tick s = .fault .drawOverrun)

/-- What a `TICK` leaves: parameters, registers, pending events, and every byte of memory but `oam` on the 640th dot of an
OAM DMA (R231), the destination block on the H_BLANK dot that copies one (R244), and the framebuffer cell under the cursor
in DRAW (R210). The DMA engines change only while they run. -/
def Obligations.TickFrame : Prop :=
  ∀ s t : State, exec .tick s = .next t →
    t.cfg = s.cfg ∧ t.reg = s.reg ∧ t.events = s.events ∧ t.out.data = none ∧
    (∀ a, t.peek .ext a = s.peek .ext a ∧ t.peek .bgpal a = s.peek .bgpal a ∧ t.peek .objpal a = s.peek .objpal a) ∧
    (∀ a, ¬(s.odma.active = true ∧ s.odma.dots = 639 ∧ a < 0xA0) → t.peek .oam a = s.peek .oam a) ∧
    (∀ sp a, sp = .vram0 ∨ sp = .vram1 →
      ¬(s.lcdEn = true ∧ s.ctl.mode = .hBlank ∧ s.vdma.mode = .hblank ∧ s.ctl.hblankCopied = false ∧
        sp = vramSpace s.reg.vbk ∧ ∃ k < 16, a = 0x8000 + (s.vdma.dst.toNat + k) % 0x2000) → t.peek sp a = s.peek sp a) ∧
    (∀ y x, ¬(s.lcdEn = true ∧ s.ctl.mode = .draw ∧ fbKey y x = fbKey s.ctl.ly.toNat s.lx) → t.fbCell y x = s.fbCell y x) ∧
    (s.odma.active = false → t.odma = s.odma) ∧
    (s.vdma.mode = .idle → t.vdma = s.vdma) ∧
    (s.vdma.mode = .hblank → ¬(s.lcdEn = true ∧ s.ctl.mode = .hBlank ∧ s.ctl.hblankCopied = false) → t.vdma = s.vdma)

/-- R130, R345: while the display is off a `TICK` leaves the controller, the fetchers, the Mixer and the framebuffer, and
raises nothing. -/
def Obligations.TickWithDisplayOff : Prop :=
  ∀ s : State, s.reg.lcdc.getLsbD 7 = false →
    Completes .tick s fun t => t.ctl = s.ctl ∧ SameRenderer s t ∧ Raised s t noSignals ∧
      (s.odma.active = false → s.vdma.mode ≠ .general → t = s.silent)

/-- R133, R134: dots 1 to 79 of OAM_SEARCH only count; dot 80 collects the sprites of the line and enters DRAW (the
values at DRAW entry, R134, rest on the spec's decisions D8 and D18). -/
def Obligations.OamSearchDots : Prop :=
  ∀ s : State, s.lcdEn = true → s.ctl.mode = .oamSearch →
    (s.ctl.modeDot + 1 ≠ 80 → Completes .tick s fun t =>
      t.ctl = { s.ctl with modeDot := s.ctl.modeDot + 1 } ∧ SameRenderer s t ∧ Raised s t noSignals) ∧
    (s.ctl.modeDot + 1 = 80 → Completes .tick s fun t =>
      t.ctl = { s.ctl with mode := .draw, modeDot := 0, drawLen := 172, hblankLen := 204, wxTrigger := decide (s.reg.wx.toNat ≤ 7) } ∧
      t.lx = 0 ∧
      t.bg = { s.bg with stage := .getTile, stageDot := 0, fetchX := 0, stall := 0, inWindow := false, suspended := false,
                         discardPending := true, queue := [] } ∧
      t.sp = { s.sp with line := orderSprites s.cfg s.foundSprites, stage := .idle, pre := 0, s1Dots := 0, s3Dots := 0,
                         extraDone := false, queue := [] } ∧
      t.mem.fb = s.mem.fb ∧ Raised s t noSignals)

/-- R180, R181, R182, R183: the sprites of the line are exactly the first 10 records on it, with their clamped screen-X, not
processed; in OAM order in color mode, by screen-X with ties by `OAM_TIE_BREAK` in monochrome. -/
def Obligations.LineSpritesFoundAndOrdered : Prop :=
  ∀ (s : State) (onLine : Nat → Prop) (l : List LineSprite),
    (∀ n, onLine n ↔ n < 40 ∧ (s.oamRead (4 * n)).toNat ≤ s.ctl.ly.toNat + 16 ∧
      s.ctl.ly.toNat + 16 < (s.oamRead (4 * n)).toNat + (if s.reg.lcdc.getLsbD 2 then 16 else 8)) →
    l = orderSprites s.cfg s.foundSprites →
    l.length ≤ 10 ∧
    (∀ e, e ∈ l ↔ onLine e.idx ∧ e.done = false ∧
      (e.sx : Int) = min 160 (max 0 (((s.oamRead (4 * e.idx + 1)).toNat : Int) - 8)) ∧
      (∀ earlier : List Nat, earlier.Nodup → (∀ n ∈ earlier, onLine n ∧ n < e.idx) → earlier.length < 10)) ∧
    (s.cfg.cgbMode = true → l.Pairwise fun a b => a.idx < b.idx) ∧
    (s.cfg.cgbMode = false → s.cfg.oamTieBreak = .lowerIndexFirst →
      l.Pairwise fun a b => a.sx < b.sx ∨ (a.sx = b.sx ∧ a.idx < b.idx)) ∧
    (s.cfg.cgbMode = false → s.cfg.oamTieBreak = .higherIndexFirst →
      l.Pairwise fun a b => a.sx < b.sx ∨ (a.sx = b.sx ∧ b.idx < a.idx))

/-- R135, R81: a DRAW dot with pixels left runs the Sprite Fetcher, and where it passes through the Background Fetcher and
then the Mixer; the DMA engines of the same `TICK` change none of their results. -/
def Obligations.DrawDotOrder : Prop :=
  ∀ s u v : State, s.drawing →
    u = { s with ctl := { s.ctl with modeDot := s.ctl.modeDot + 1 } } →
    v = (if u.spriteStep.1 then u.spriteStep.2 else u.spriteStep.2.bgStep.mixStep) →
    Completes .tick s fun t => t.ctl = v.ctl ∧ SameRenderer v t ∧ Raised s t noSignals

/-- R137: H_BLANK is entered with the STAT interrupt if its enable is set. That the DRAW dot that finds `lx` = 160 is the one,
that it records the elapsed dots and that it runs no fetcher and no Mixer (R135) is the spec's decision D7. -/
def Obligations.DrawEndsAtColumn160 : Prop :=
  ∀ s : State, s.lcdEn = true → s.ctl.mode = .draw → s.ctl.modeDot < 375 → s.lx = 160 →
    Completes .tick s fun t =>
      t.ctl = { s.ctl with mode := .hBlank, modeDot := 0, hblankCopied := false, drawLen := s.ctl.modeDot + 1,
                           hblankLen := 375 - s.ctl.modeDot } ∧
      SameRenderer s t ∧
      Raised s t { vblankIrq := false, statIrq := s.reg.statIe.getLsbD 0, frameReady := false }

/-- R138, R244, R246: an H_BLANK dot on which an hblank transfer is due, the last of the line included, copies exactly one
block to bank `vbk`, counts it and completes after the last; it does not come due again in the same H_BLANK. What else the last
dot leaves is in HBlankEndsLine and VBlankEntryRaisesSignals. -/
def Obligations.HblankTransferCopiesOneBlock : Prop :=
  ∀ s : State, s.lcdEn = true → s.ctl.mode = .hBlank → s.vdma.mode = .hblank → s.ctl.hblankCopied = false →
    Completes .tick s fun t =>
      t.ctl.hblankCopied = true ∧
      (s.ctl.modeDot + 1 ≠ s.ctl.hblankLen →
        t.ctl = { s.ctl with modeDot := s.ctl.modeDot + 1, hblankCopied := true } ∧ Raised s t noSignals) ∧
      (s.ctl.modeDot + 1 = s.ctl.hblankLen → t.ctl.modeDot = 0 ∧ t.ctl.ly = s.ctl.ly + 1#8 ∧
        t.ctl.mode = if s.ctl.ly = 143#8 then .vBlank else .oamSearch) ∧
      t.vdma.src = s.vdma.src + 16#16 ∧ t.vdma.dst.toNat = 0x8000 + (s.vdma.dst.toNat + 16) % 0x2000 ∧
      t.vdma.blocks = s.vdma.blocks - 1 ∧ t.vdma.dots = s.vdma.dots ∧ t.vdma.threshold = s.vdma.threshold ∧
      (s.vdma.blocks ≤ 1 → t.vdma.mode = .idle ∧ t.vdma.len = 0x7F#7) ∧
      (1 < s.vdma.blocks → t.vdma.mode = .hblank ∧ t.vdma.len = s.vdma.len - 1#7) ∧
      CopiedBytes s t s.vdma.src.toNat s.vdma.dst.toNat 16 ∧ SameRenderer s t

/-- R138, R139, R132: an H_BLANK dot before the last changes no controller register but its counter (and the copy latch); the
last one of lines 0 to 142 goes to the next line's OAM_SEARCH with that line's triggers, coincidence and STAT interrupt. -/
def Obligations.HBlankEndsLine : Prop :=
  ∀ s : State, s.lcdEn = true → s.ctl.mode = .hBlank →
    (s.ctl.modeDot + 1 ≠ s.ctl.hblankLen → Completes .tick s fun t =>
      t.ctl = { s.ctl with modeDot := s.ctl.modeDot + 1,
                           hblankCopied := s.ctl.hblankCopied || decide (s.vdma.mode = .hblank) } ∧
      SameRenderer s t ∧ Raised s t noSignals) ∧
    (s.ctl.modeDot + 1 = s.ctl.hblankLen → s.ctl.ly ≠ 143#8 → ∀ ly : Byte, ly = s.ctl.ly + 1#8 →
      Completes .tick s fun t =>
        t.ctl = { s.ctl with
          mode := .oamSearch
          modeDot := 0
          ly := ly
          winLine := if s.bg.inWindow then s.ctl.winLine + 1#8 else s.ctl.winLine
          wyTrigger := decide (s.reg.wy.toNat ≤ ly.toNat)
          wxTrigger := false
          coin := decide (ly = s.reg.lyc)
          hblankCopied := s.ctl.hblankCopied || decide (s.vdma.mode = .hblank) } ∧
        SameRenderer s t ∧
        Raised s t { vblankIrq := false
                     statIrq := (decide (ly = s.reg.lyc) && s.reg.statIe.getLsbD 3) ||
                       (s.cfg.statOamIrq && s.reg.statIe.getLsbD 2)
                     frameReady := false })

/-- R140: the last H_BLANK dot of line 143 enters V_BLANK and raises FRAME_READY, VBLANK_IRQ and, if enabled, STAT_IRQ, each
once; no other event raises FRAME_READY. The window line counter at the end of a line (R139) is the spec's decision D35, the
copy latch (R244) its decision D29. -/
def Obligations.VBlankEntryRaisesSignals : Prop :=
  (∀ s : State, s.lcdEn = true → s.ctl.mode = .hBlank → s.ctl.modeDot + 1 = s.ctl.hblankLen → s.ctl.ly = 143#8 →
    Completes .tick s fun t =>
      t.ctl = { s.ctl with
        mode := .vBlank
        modeDot := 0
        ly := 144#8
        winLine := if s.bg.inWindow then s.ctl.winLine + 1#8 else s.ctl.winLine
        hblankCopied := s.ctl.hblankCopied || decide (s.vdma.mode = .hblank) } ∧
      SameRenderer s t ∧
      Raised s t { vblankIrq := true, statIrq := s.reg.statIe.getLsbD 1, frameReady := true } ∧
      t.cnt.frameReady = s.cnt.frameReady + 1) ∧
  (∀ (i : Instr) (s t : State), exec i s = .next t → t.out.signals.frameReady = true → s.ctl.mode ≠ .vBlank ∧ t.ctl.mode = .vBlank)

/-- R141: the dots of V_BLANK. Dot 4560 resets the line counters and trackers and enters OAM_SEARCH of line 0; every other
456th dot increments LY with no comparison and no interrupt; LY runs from 144 to 153. -/
def Obligations.VBlankDots : Prop :=
  ∀ s : State, s.lcdEn = true → s.ctl.mode = .vBlank →
    (s.ctl.modeDot + 1 = 4560 → Completes .tick s fun t =>
      t.ctl = { s.ctl with
        mode := .oamSearch
        modeDot := 0
        ly := 0#8
        winLine := 0#8
        drawLen := 172
        hblankLen := 204
        wyTrigger := decide (s.reg.wy = 0#8)
        wxTrigger := false
        coin := decide (s.reg.lyc = 0#8) } ∧
      SameRenderer s t ∧
      Raised s t { vblankIrq := false
                   statIrq := (decide (s.reg.lyc = 0#8) && s.reg.statIe.getLsbD 3) ||
                     (s.cfg.statOamIrq && s.reg.statIe.getLsbD 2)
                   frameReady := false }) ∧
    (s.ctl.modeDot + 1 ≠ 4560 → Completes .tick s fun t =>
      t.ctl = { s.ctl with
        modeDot := s.ctl.modeDot + 1
        ly := if (s.ctl.modeDot + 1) % 456 = 0 then s.ctl.ly + 1#8 else s.ctl.ly } ∧
      SameRenderer s t ∧ Raised s t noSignals ∧
      (s.lineInv → 144 ≤ t.ctl.ly.toNat ∧ t.ctl.ly.toNat ≤ 153))

/-! ### The Background Fetcher -/

/-- R160, R163 to R167: the fetcher dots of the three two-dot stages, with the map and tile addresses, when neither the
window is entered nor a stall is pending; only the fetcher's own state changes. -/
def Obligations.FetchStagesTakeTwoDots : Prop :=
  ∀ s : State, s.entersWindow = false → s.bg.stall = 0 →
    (s.bg.stage = .getTile ∨ s.bg.stage = .getTileDataLow ∨ s.bg.stage = .getTileDataHigh → s.bg.stageDot = 0 →
      s.bgStep = { s with bg := { s.bg with stageDot := 1 } }) ∧
    (s.bg.stage = .getTile → s.bg.stageDot = 1 → ∀ a,
      a = (if s.bg.inWindow then
            (if s.reg.lcdc.getLsbD 6 then 0x9C00 else 0x9800) + 32 * (s.ctl.winLine.toNat / 8 % 32) + s.bg.fetchX % 32
          else (if s.reg.lcdc.getLsbD 3 then 0x9C00 else 0x9800) +
            32 * ((s.ctl.ly.toNat + s.reg.scy.toNat) % 256 / 8) + (s.reg.scx.toNat / 8 + s.bg.fetchX) % 32) →
      s.bgStep = { s with bg := { s.bg with
        stage := .getTileDataLow
        stageDot := 0
        tileIdx := s.peek .vram0 a
        tileAttr := if s.cfg.cgbMode then s.peek .vram1 a else 0#8 } }) ∧
    (s.bg.stage = .getTileDataLow → s.bg.stageDot = 1 → ∀ (base : Int) (sp : Space),
      base = (if s.reg.lcdc.getLsbD 4 then 0x8000 + 16 * (s.bg.tileIdx.toNat : Int) else 0x9000 + 16 * s.bg.tileIdx.toInt) →
      sp = (if s.cfg.cgbMode && s.bg.tileAttr.getLsbD 3 then .vram1 else .vram0) →
      s.bgStep = { s with bg := { s.bg with
        stage := .getTileDataHigh
        stageDot := 0
        tileBytes := (List.range 16).map fun k => s.peek sp (base.toNat + k) } }) ∧
    (s.bg.stage = .getTileDataHigh → s.bg.stageDot = 1 → 8 < s.bg.queue.length →
      s.bgStep = { s with bg := { s.bg with stage := .sleep, stageDot := 0 } }) ∧
    (s.bg.stage = .sleep → 8 < s.bg.queue.length → s.bgStep = s)

/-- R168, R169, R170: a fetcher that has its tile and finds room pushes the eight pixels of the current sub-line, flipped as
the attribute byte says, discards the fine scroll on the first push of the line, and starts the next tile. -/
def Obligations.PushEnqueuesTileRow : Prop :=
  ∀ (s : State) (sub : Nat) (px : List Pixel), s.entersWindow = false → s.bg.stall = 0 →
    (s.bg.stage = .sleep ∨ (s.bg.stage = .getTileDataHigh ∧ s.bg.stageDot = 1)) → s.bg.queue.length ≤ 8 →
    s.bg.tileBytes.length = 16 →
    (sub = if s.bg.inWindow then s.ctl.winLine.toNat % 8 else (s.ctl.ly.toNat + s.reg.scy.toNat) % 256 % 8) →
    px.length = 8 →
    (∀ i < 8, ∀ r c, (r = if s.cfg.cgbMode && s.bg.tileAttr.getLsbD 6 then 7 - sub else sub) →
      (c = if s.cfg.cgbMode && s.bg.tileAttr.getLsbD 5 then 7 - i else i) →
      ∃ p lo hi, px[i]? = some p ∧ s.bg.tileBytes[2 * r]? = some lo ∧ s.bg.tileBytes[2 * r + 1]? = some hi ∧
        p.color.toNat = 2 * (hi.toNat / 2 ^ (7 - c) % 2) + lo.toNat / 2 ^ (7 - c) % 2 ∧
        p.pal.toNat = (if s.cfg.cgbMode then s.bg.tileAttr.toNat % 8 else 0) ∧ p.isSprite = false ∧ p.bgOverObj = false ∧
        p.bgToOam = (s.cfg.cgbMode && s.bg.tileAttr.getLsbD 7) ∧ p.key = 0) →
    s.bgStep = { s with bg := { s.bg with
      stage := .getTile
      stageDot := 0
      fetchX := s.bg.fetchX + 1
      discardPending := false
      queue := if s.bg.discardPending then (s.bg.queue ++ px).drop (s.reg.scx.toNat % 8) else s.bg.queue ++ px } }

/-- R161, R162: window entry empties the queue and restarts the fetcher against the window map; at column 0 with a fine
scroll it costs a dot, charged to DRAW; else the dot of entry already is the first of GET_TILE. -/
def Obligations.WindowEntryRestartsFetcher : Prop :=
  ∀ s : State, s.bg.inWindow = false → s.reg.lcdc.getLsbD 5 = true → s.ctl.wyTrigger = true → s.ctl.wxTrigger = true →
    s.bg.stall = 0 →
    s.bgStep =
      (if s.lx = 0 ∧ s.reg.scx.toNat % 8 ≠ 0 then
        { s with
          bg := { s.bg with inWindow := true, queue := [], stage := .getTile, stageDot := 0, fetchX := 0, discardPending := false }
          ctl := { s.ctl with drawLen := s.ctl.drawLen + 1, hblankLen := s.ctl.hblankLen - 1 } }
      else
        { s with
          bg := { s.bg with inWindow := true, queue := [], stage := .getTile, stageDot := 1, fetchX := 0, discardPending := false } })

/-- R71, R76, R105, R166, R194: every address the fetchers compute lies where it must: map addresses in the selected map,
tile rows of background and sprites in tile data, background tile data 16-aligned. -/
def Obligations.FetchAddressesInRange : Prop :=
  (∀ s : State, (mapBase s.bgMap ≤ s.bgMapAddr ∧ s.bgMapAddr < mapBase s.bgMap + 1024) ∧
    (mapBase s.winMap ≤ s.winMapAddr ∧ s.winMapAddr < mapBase s.winMap + 1024)) ∧
  (∀ (sel : Bool) (idx : Byte), tileDataBase sel idx % 16 = 0 ∧
    (if sel then 0x8000 else 0x8800) ≤ tileDataBase sel idx ∧ tileDataBase sel idx + 15 ≤ (if sel then 0x8FFF else 0x97FF)) ∧
  (∀ (ly y tile : Byte) (tall flip : Bool) (h r : Nat), h = (if tall then 16 else 8) → r = spriteRow ly y h flip → r < h ∧
    (spriteTileRow tile h r).2 < 8 ∧
    0x8000 ≤ spriteRowAddr (spriteTileRow tile h r).1 (spriteTileRow tile h r).2 ∧
    spriteRowAddr (spriteTileRow tile h r).1 (spriteTileRow tile h r).2 + 1 ≤ 0x8FFF ∧
    (tall = true → (spriteTileRow tile h r).1.toNat = tile.toNat / 2 * 2 + r / 8))

/-! ### The Sprite Fetcher -/

/-- R187, R190, R191, R192: the dots of stages 2 to 5 and of the column-0 extra. Each is consumed wholly (Background Fetcher,
Mixer and queues stand still) and charges one penalty dot. What a penalty dot does to the length trackers (R136) is the spec's
decision D8, that a consumed dot runs nothing else and stage 5 hands on to stage 6 (R185, R193) its decision D12. -/
def Obligations.SpriteStageDots : Prop :=
  ∀ s : State, s.drawing → (s.cfg.cgbMode = true ∨ s.reg.lcdc.getLsbD 1 = true) →
    (s.sp.stage ≠ .idle ∧ s.sp.stage ≠ .stage6 ∧ (s.sp.stage = .stage1 → 0 < s.sp.pre)) →
    Completes .tick s fun t =>
      t.ctl = { s.ctl with modeDot := s.ctl.modeDot + 1, drawLen := s.ctl.drawLen + 1, hblankLen := s.ctl.hblankLen - 1 } ∧
      t.bg = s.bg ∧ t.lx = s.lx ∧ t.mem.fb = s.mem.fb ∧ Raised s t noSignals ∧
      (0 < s.sp.pre → t.sp = { s.sp with pre := s.sp.pre - 1 }) ∧
      (s.sp.pre = 0 → s.sp.stage = .stage2 → t.sp = { s.sp with stage := .stage3 }) ∧
      (s.sp.pre = 0 → s.sp.stage = .stage3 →
        t.sp = { s.sp with s3Dots := s.sp.s3Dots + 1, stage := if s.sp.s3Dots + 1 = 3 then .stage4 else .stage3 }) ∧
      (s.sp.pre = 0 → s.sp.stage = .stage4 → t.sp = { s.sp with stage := .stage5 }) ∧
      (s.sp.pre = 0 → s.sp.stage = .stage5 → t.sp = { s.sp with stage := .stage6 })

/-- R188: in monochrome with objects disabled a fetch in stages 1 to 5 is abandoned on the dot, the dot of its trigger
included: one penalty dot, the sprite is marked processed, the Background Fetcher is released, the queues stand still. -/
def Obligations.SpriteAbortInMonochrome : Prop :=
  ∀ (s : State) (cur : Nat), s.drawing → s.cfg.cgbMode = false → s.reg.lcdc.getLsbD 1 = false →
    ((s.sp.stage ≠ .idle ∧ s.sp.stage ≠ .stage6 ∧ cur = s.sp.cur) ∨
      (s.sp.stage = .idle ∧ (∃ e, s.sp.line[cur]? = some e ∧ e.done = false ∧ e.sx = s.lx) ∧
        ∀ j < cur, ∀ e, s.sp.line[j]? = some e → e.done = true ∨ e.sx ≠ s.lx)) →
    Completes .tick s fun t =>
      t.ctl = { s.ctl with modeDot := s.ctl.modeDot + 1, drawLen := s.ctl.drawLen + 1, hblankLen := s.ctl.hblankLen - 1 } ∧
      t.sp.stage = .idle ∧ t.sp.pre = 0 ∧ t.sp.cur = cur ∧ t.sp.queue = s.sp.queue ∧
      (∀ j, t.sp.line[j]? = (s.sp.line[j]?).map fun e => if j = cur then { e with done := true } else e) ∧
      t.bg = { s.bg with suspended := false } ∧ t.lx = s.lx ∧ t.mem.fb = s.mem.fb ∧ Raised s t noSignals

/-- R189: a stage-1 dot charges a penalty dot and runs no Mixer; with pixels queued the Background Fetcher stands still, with
none it is clocked; stage 1 ends once 5 dots have passed and the queue is not empty. -/
def Obligations.SpriteStage1WaitsForQueue : Prop :=
  ∀ s u : State, s.drawing → (s.cfg.cgbMode = true ∨ s.reg.lcdc.getLsbD 1 = true) → s.sp.stage = .stage1 → s.sp.pre = 0 →
    u = { s with ctl := { s.ctl with modeDot := s.ctl.modeDot + 1, drawLen := s.ctl.drawLen + 1,
                                     hblankLen := s.ctl.hblankLen - 1 } } →
    Completes .tick s fun t =>
      (s.bg.queue ≠ [] → t.bg = s.bg ∧ t.ctl = u.ctl) ∧
      (s.bg.queue = [] → t.bg = u.bgStep.bg ∧ t.ctl = u.bgStep.ctl) ∧
      t.sp = { s.sp with
        s1Dots := s.sp.s1Dots + 1
        stage := if 5 ≤ s.sp.s1Dots + 1 ∧ t.bg.queue ≠ [] then .stage2 else .stage1 } ∧
      t.lx = s.lx ∧ t.mem.fb = s.mem.fb ∧ Raised s t noSignals

/-- R186, R187, R189, R136: with no fetch in progress the first entry of the line list that is not processed and starts at the
cursor begins a fetch and suspends the Background Fetcher, on a dot it consumes, charged as one penalty dot. The dot is the
first of stage 1, which clocks the Background Fetcher exactly if the queue is empty; at column 0 with a fine scroll, once a
line, it is instead the first of `SCX mod 8` extra dots, on which the Background Fetcher stands still. With no such entry the
dot passes through. The trackers, the cursor of the trigger and the clocked fetcher are the spec's decisions D8, D10, D11. -/
def Obligations.SpriteTriggerAtCursor : Prop :=
  ∀ s : State, s.drawing → s.sp.stage = .idle →
    (∀ i e, (s.cfg.cgbMode = true ∨ s.reg.lcdc.getLsbD 1 = true) → s.sp.line[i]? = some e → e.done = false → e.sx = s.lx →
      (∀ j < i, ∀ e', s.sp.line[j]? = some e' → e'.done = true ∨ e'.sx ≠ s.lx) →
      ∀ u : State, u = { s with
        ctl := { s.ctl with modeDot := s.ctl.modeDot + 1, drawLen := s.ctl.drawLen + 1, hblankLen := s.ctl.hblankLen - 1 }
        bg := { s.bg with suspended := true } } →
      Completes .tick s fun t =>
        t.lx = s.lx ∧ t.mem.fb = s.mem.fb ∧ Raised s t noSignals ∧ t.bg.suspended = true ∧
        (if s.lx = 0 ∧ s.reg.scx.toNat % 8 ≠ 0 ∧ s.sp.extraDone = false then
          t.sp = { s.sp with cur := i, stage := .stage1, s1Dots := 0, s3Dots := 0, extraDone := true,
                             pre := s.reg.scx.toNat % 8 - 1 } ∧
          t.ctl = u.ctl ∧ t.bg = u.bg
        else
          t.sp = { s.sp with cur := i, stage := .stage1, s1Dots := 1, s3Dots := 0, pre := 0 } ∧
          (s.bg.queue ≠ [] → t.ctl = u.ctl ∧ t.bg = u.bg) ∧
          (s.bg.queue = [] → t.ctl = u.bgStep.ctl ∧ t.bg = u.bgStep.bg))) ∧
    ((∀ e ∈ s.sp.line, e.done = true ∨ e.sx ≠ s.lx) → ∀ u : State,
      u = State.mixStep (State.bgStep { s with ctl := { s.ctl with modeDot := s.ctl.modeDot + 1 } }) →
      Completes .tick s fun t => t.ctl = u.ctl ∧ SameRenderer u t ∧ Raised s t noSignals)

/-- R185, R193, R198: pixel delivery takes no dot of its own: a `TICK` that finds stage 6 does what it does once the sprite
is delivered; delivery marks it processed, releases the Background Fetcher and changes nothing else but the sprite queue. -/
def Obligations.DeliveryTakesNoDot : Prop :=
  ∀ s : State, s.drawing → s.sp.stage = .stage6 →
    exec .tick s = exec .tick s.deliver ∧ (∃ t, exec .tick s = .next t) ∧
    s.deliver = { s with
      sp := { s.sp with queue := s.deliver.sp.queue, line := s.deliver.sp.line, stage := .idle }
      bg := { s.bg with suspended := false } } ∧
    (∀ j, s.deliver.sp.line[j]? = (s.sp.line[j]?).map fun e => if j = s.sp.cur then { e with done := true } else e)

/-- R194, R195, R196, R197: delivery reads the record again, takes its row (tall sprites and flips included), moves it left
by the part off the screen, and merges it into the eight slots: a slot is replaced if it is transparent or has a worse key. -/
def Obligations.DeliveryMergesEightPixels : Prop :=
  ∀ (s : State) (e : LineSprite) (y x tile attr : Byte) (h r0 r : Nat) (lo hi : Byte) (base : Nat),
    s.sp.line[s.sp.cur]? = some e → s.sp.queue.length ≤ 8 →
    y = s.oamRead (4 * e.idx) → x = s.oamRead (4 * e.idx + 1) → tile = s.oamRead (4 * e.idx + 2) →
    attr = s.oamRead (4 * e.idx + 3) →
    (h = if s.reg.lcdc.getLsbD 2 then 16 else 8) →
    r0 = (s.ctl.ly.toNat + 16 + (256 - y.toNat)) % 256 % h →
    (r = if attr.getLsbD 6 then h - 1 - r0 else r0) →
    (base = if h = 16 then 0x8000 + 16 * (tile.toNat / 2 * 2 + r / 8) + 2 * (r % 8) else 0x8000 + 16 * tile.toNat + 2 * r) →
    lo = s.peek (if s.cfg.cgbMode && attr.getLsbD 3 then .vram1 else .vram0) base →
    hi = s.peek (if s.cfg.cgbMode && attr.getLsbD 3 then .vram1 else .vram0) (base + 1) →
    s.deliver.sp.queue.length = 8 ∧
    ∀ i < 8, ∀ (c : Nat) (old new : Pixel),
      (c = if attr.getLsbD 5 then 7 - (i + (8 - x.toNat)) else i + (8 - x.toNat)) →
      old = (s.sp.queue[i]?).getD Pixel.transparent →
      new =
        { color := if i + (8 - x.toNat) < 8 then BitVec.ofNat 2 (2 * (hi.toNat / 2 ^ (7 - c) % 2) + lo.toNat / 2 ^ (7 - c) % 2) else 0#2
          pal := if s.cfg.cgbMode then BitVec.ofNat 3 attr.toNat else (if attr.getLsbD 4 then 1#3 else 0#3)
          isSprite := true
          bgOverObj := attr.getLsbD 7
          bgToOam := false
          key := s.sp.cur } →
      s.deliver.sp.queue[i]? = some (if old.color = 0#2 ∨ new.key < old.key then new else old)

/-! ### The Mixer and the palettes -/

/-- R210, R215, R216: the Mixer pops only while the queue holds more than 8 pixels; then it writes the resolved color at
(line, cursor), pops both queues, advances the cursor and looks at WX again; every other cell stays. -/
def Obligations.MixerPopsAboveEight : Prop :=
  ∀ s : State,
    (s.bg.queue.length ≤ 8 → s.mixStep = s) ∧
    (8 < s.bg.queue.length → ∃ b rest, s.bg.queue = b :: rest ∧
      s.mixStep.fbCell s.ctl.ly.toNat s.lx = s.resolve b s.sp.queue.head? ∧
      (∀ y x, fbKey y x ≠ fbKey s.ctl.ly.toNat s.lx → s.mixStep.fbCell y x = s.fbCell y x) ∧
      SameBytes s s.mixStep ∧
      s.mixStep = { s with
        mem := s.mixStep.mem
        bg := { s.bg with queue := rest }
        sp := { s.sp with queue := s.sp.queue.drop 1 }
        lx := s.lx + 1
        ctl := { s.ctl with wxTrigger := decide (s.reg.wx.toNat ≤ s.lx + 1 + 7) } })

/-- R211: which pixel is visible, by the four resolution rules and the three readings the spec keeps. The value of `blank` is
in PaletteLookup. -/
def Obligations.ResolutionRules : Prop :=
  ∀ (s : State) (b : Pixel) (o : Option Pixel),
    (o = none ∨ s.reg.lcdc.getLsbD 1 = false →
      s.resolve b o = if s.cfg.cgbMode = false ∧ s.reg.lcdc.getLsbD 0 = false then blank else s.bgColor b) ∧
    (∀ p, o = some p → s.reg.lcdc.getLsbD 1 = true →
      (p.color = 0#2 → s.resolve b o = s.bgColor b) ∧
      (p.color ≠ 0#2 → s.cfg.cgbMode = true → b.bgToOam = true → s.resolve b o = s.bgColor b) ∧
      (p.color ≠ 0#2 → ¬(s.cfg.cgbMode = true ∧ b.bgToOam = true) →
        (s.reg.lcdc.getLsbD 0 = false → s.resolve b o = s.objColor p) ∧
        (s.reg.lcdc.getLsbD 0 = true → p.bgOverObj = false → s.resolve b o = s.objColor p) ∧
        (s.reg.lcdc.getLsbD 0 = true → p.bgOverObj = true → b.color = 0#2 → s.resolve b o = s.objColor p) ∧
        (s.reg.lcdc.getLsbD 0 = true → p.bgOverObj = true → b.color ≠ 0#2 → s.resolve b o = s.bgColor b)))

/-- R212, R213, R109, R110: the color of a pixel through the palettes: two bits of the palette byte in monochrome, the
little-endian 15-bit entry in color mode. The blank color is the cell value 0 (R214, the spec's decision D22). -/
def Obligations.PaletteLookup : Prop :=
  blank = 0#15 ∧ ∀ (s : State) (p : Pixel),
    (s.cfg.cgbMode = false →
      (s.bgColor p).toNat = s.reg.bgp.toNat / 4 ^ p.color.toNat % 4 ∧
      (s.objColor p).toNat = (if p.pal = 0#3 then s.reg.obp0 else s.reg.obp1).toNat / 4 ^ p.color.toNat % 4) ∧
    (s.cfg.cgbMode = true → ∀ e, e = 8 * p.pal.toNat + 2 * p.color.toNat → e ≤ 62 ∧
      (s.bgColor p).toNat = (256 * (s.peek .bgpal (e + 1)).toNat + (s.peek .bgpal e).toNat) % 2 ^ 15 ∧
      (s.objColor p).toNat = (256 * (s.peek .objpal (e + 1)).toNat + (s.peek .objpal e).toNat) % 2 ^ 15)

/-- R104: the row and tile decode rules, the two flips, and the encoding, bit by bit and as the inverse in both directions. -/
def Obligations.TileRowRoundTrip : Prop :=
  (∀ (lo hi : Byte) (i : Nat), i < 8 → ∃ c, (decodeRow lo hi)[i]? = some c ∧
    c.toNat = 2 * (hi.toNat / 2 ^ (7 - i) % 2) + lo.toNat / 2 ^ (7 - i) % 2 ∧
    (flipRow (decodeRow lo hi))[7 - i]? = some c) ∧
  (∀ lo hi : Byte, (decodeRow lo hi).length = 8 ∧ encodeRow (decodeRow lo hi) = (lo, hi)) ∧
  (∀ row : List ColorIndex, row.length = 8 → decodeRow (encodeRow row).1 (encodeRow row).2 = row ∧
    ∀ i < 8, ∀ c, row[i]? = some c →
      (encodeRow row).1.getLsbD (7 - i) = c.getLsbD 0 ∧ (encodeRow row).2.getLsbD (7 - i) = c.getLsbD 1) ∧
  (∀ t : List Byte, t.length = 16 → (decodeTile t).length = 8 ∧ ∀ r < 8, ∃ lo hi, t[2 * r]? = some lo ∧ t[2 * r + 1]? = some hi ∧
    (decodeTile t)[r]? = some (decodeRow lo hi) ∧ (decodeTile t).reverse[7 - r]? = some (decodeRow lo hi))

/-! ### The DMA engines on a dot -/

/-- R231, R232: an OAM DMA counts its dots and changes no byte before the 640th; on the 640th, after the controller's work
for that dot, it copies all 0xA0 bytes as the block's own reads give them (a copy of `oam` onto itself changes nothing), and
ends. -/
def Obligations.OamDmaCopiesOnDot640 : Prop :=
  ∀ s u : State, s.odma.active = true → ¬(s.lcdEn = true ∧ s.ctl.mode = .draw ∧ 375 ≤ s.ctl.modeDot) →
    u = (if s.lcdEn then s.silent.controllerStep else s.silent) →
    Completes .tick s fun t =>
      t.odma.src = s.odma.src ∧ t.odma.dots = s.odma.dots + 1 ∧ t.odma.active = decide (s.odma.dots + 1 ≠ 640) ∧
      (s.odma.dots + 1 ≠ 640 → ∀ a, t.oamRead a = s.oamRead a) ∧
      (s.odma.dots + 1 = 640 → s.odma.src.toNat % 256 = 0 → ∀ k < 0xA0,
        t.oamRead k = if s.odma.src.toNat = 0xFE00 then s.oamRead k else u.memRead (s.odma.src + BitVec.ofNat 16 k))

/-- R242, R243: a general transfer counts 2 a dot, 1 in double speed, and is complete once the count reaches its threshold;
HDMA5 then reads 0xFF. -/
def Obligations.GeneralTransferCountsDots : Prop :=
  ∀ (s : State) (n : Nat), s.vdma.mode = .general → ¬(s.lcdEn = true ∧ s.ctl.mode = .draw ∧ 375 ≤ s.ctl.modeDot) →
    (n = s.vdma.dots + if s.cfg.doubleSpeed then 1 else 2) →
    Completes .tick s fun t =>
      (n < s.vdma.threshold → t.vdma = { s.vdma with dots := n }) ∧
      (s.vdma.threshold ≤ n → t.vdma = { s.vdma with dots := n, mode := .idle, blocks := 0, len := 0x7F#7 } ∧
        exec .rdHdma5 t = .next (t.withAnswer 0xFF#8))

/-! ### Rules of the whole machine -/

/-- R45, R332: raising a signal is confined to `TICK` and to the `WR` of LCDC that enables the display; every event keeps the
parameters (R4; that they stand in the state is the model's choice, log entry 15); only WR.VBK changes `vbk` (R33, the spec's
decision D37); only a `TICK` in DRAW changes the framebuffer (R44). That no event changes the pending words is the model's
choice (log entry 1). -/
def Obligations.EventsKeepTheirBounds : Prop :=
  ∀ (i : Instr) (s t : State), exec i s = .next t →
    t.cfg = s.cfg ∧ t.events = s.events ∧
    (t.out.signals ≠ noSignals → i = .tick ∨ ∃ d, i = .wrLcdc d ∧ s.lcdEn = false ∧ d.getLsbD 7 = true) ∧
    (t.reg.vbk ≠ s.reg.vbk → ∃ d, i = .wrVbk d) ∧
    (t.mem.fb ≠ s.mem.fb → i = .tick ∧ s.lcdEn = true ∧ s.ctl.mode = .draw)

/-- R44: the framebuffer is never read by the block: whatever it holds, an event has the same outcome and leaves the same
state but for the framebuffer. -/
def Obligations.FramebufferNeverRead : Prop :=
  ∀ (i : Instr) (s : State) (fb : Memory Color15),
    (∀ t, exec i s = .next t → ∃ fb', exec i (s.setFb fb) = .next (t.setFb fb')) ∧
    (∀ f, exec i s = .fault f → exec i (s.setFb fb) = .fault f)

/-- R50, R360: reset for any parameters: every item at its value, nothing written to any memory (so every byte is the
unspecified one), the counters at 0, and all invariants hold. The empty event queue (log entry 1) and the empty answer (log
entry 5) are the model's choice. -/
def Obligations.ResetState : Prop :=
  ∀ p : Parameters, ∀ s : State, s = State.resetWith p →
    s.lcdEn = false ∧ s.reg.lcdc = 0#8 ∧ s.reg.statIe = 0#4 ∧ s.reg.scy = 0#8 ∧ s.reg.scx = 0#8 ∧ s.reg.lyc = 0#8 ∧
    s.reg.dma = 0#8 ∧ s.reg.bgp = 0#8 ∧ s.reg.obp0 = 0#8 ∧ s.reg.obp1 = 0#8 ∧ s.reg.wy = 0#8 ∧ s.reg.wx = 0#8 ∧
    s.reg.vbk = 0#1 ∧ s.reg.hdma1 = 0#8 ∧ s.reg.hdma2 = 0#8 ∧ s.reg.hdma3 = 0#8 ∧ s.reg.hdma4 = 0#8 ∧
    s.reg.bcpsIdx = 0#6 ∧ s.reg.bcpsInc = false ∧ s.reg.ocpsIdx = 0#6 ∧ s.reg.ocpsInc = false ∧
    s.ctl.mode = .oamSearch ∧ s.ctl.modeDot = 0 ∧ s.ctl.ly = 0#8 ∧ s.ctl.drawLen = 172 ∧ s.ctl.hblankLen = 204 ∧
    s.ctl.coin = false ∧ s.ctl.wyTrigger = false ∧ s.ctl.wxTrigger = false ∧ s.ctl.hblankCopied = false ∧
    s.ctl.winLine = 0#8 ∧
    s.bg.stage = .getTile ∧ s.bg.stageDot = 0 ∧ s.bg.fetchX = 0 ∧ s.bg.stall = 0 ∧ s.bg.tileIdx = 0#8 ∧
    s.bg.tileAttr = 0#8 ∧ s.bg.tileBytes = List.replicate 16 0#8 ∧ s.bg.inWindow = false ∧ s.bg.suspended = false ∧
    s.bg.discardPending = false ∧ s.bg.queue = [] ∧
    s.sp.line = [] ∧ s.sp.stage = .idle ∧ s.sp.cur = 0 ∧ s.sp.pre = 0 ∧ s.sp.s1Dots = 0 ∧ s.sp.s3Dots = 0 ∧
    s.sp.extraDone = false ∧ s.sp.queue = [] ∧ s.lx = 0 ∧
    s.odma.active = false ∧ s.odma.src = 0#16 ∧ s.odma.dots = 0 ∧
    s.vdma.mode = .idle ∧ s.vdma.src = 0#16 ∧ s.vdma.dst = 0x8000#16 ∧ s.vdma.blocks = 0 ∧ s.vdma.dots = 0 ∧
    s.vdma.threshold = 0 ∧ s.vdma.len = 0x7F#7 ∧
    (∀ sp a, s.peek sp a = Config.initByte sp a) ∧ (∀ y x, s.fbCell y x = Config.initCell (fbKey y x)) ∧
    s.statByte = 0x80#8 ∧ s.cnt.vblankIrq = 0 ∧ s.cnt.statIrq = 0 ∧ s.cnt.frameReady = 0 ∧ s.cfg = p ∧
    s.out.signals = noSignals ∧ s.out.data = none ∧ s.events = [] ∧ s.inv

/-- R44, R49, R70 (the canonical form itself is the model's, log entry 4): every step keeps every memory canonical and every
byte memory within its addresses; with the controller and the cursor in their bounds, which are invariants of their own
(StepKeepsLineInvariant, StepKeepsFetcherBounds), it keeps the framebuffer within its 144 x 160 cells. -/
def Obligations.StepKeepsMemoryCanonical : Prop :=
  (∀ s t : State, s.memInv → step s = .next t → t.memInv) ∧
  (∀ s t : State, s.fbInv → s.lineInv → s.queueInv → step s = .next t → t.fbInv)

/-- R34, R143, R144: every step keeps the controller inside the lines and dots of its modes. -/
def Obligations.StepKeepsLineInvariant : Prop := ∀ s t : State, s.lineInv → step s = .next t → t.lineInv

/-- R37, R39, R42, R43, R168, R40, R41: every step keeps the bounds of the queues, the cursor and the Background Fetcher, and
every step keeps the sprite list within its bounds and a fetch in progress on an entry not yet processed. -/
def Obligations.StepKeepsFetcherBounds : Prop :=
  (∀ s t : State, s.queueInv → step s = .next t → t.queueInv) ∧
  (∀ s t : State, s.spriteInv → step s = .next t → t.spriteInv)

/-- R46, R47, R76, R247: every step keeps the DMA engines' counters, addresses and remaining length in step. -/
def Obligations.StepKeepsDmaInvariant : Prop := ∀ s t : State, s.dmaInv → step s = .next t → t.dmaInv

/-- R142, R143, R372 (the spec's estimate, proved): from every state that meets the invariants no step faults, so DRAW never
reaches its 376th dot; the next state meets them too, and DRAW takes 172 to 306 dots. -/
def Obligations.DrawNeverOverruns : Prop :=
  ∀ s : State, s.inv →
    step s ≠ .fault .drawOverrun ∧ (∀ t, step s = .next t → t.inv) ∧
    (s.ctl.mode = .hBlank → 172 ≤ s.ctl.drawLen ∧ s.ctl.drawLen ≤ 306)

/-- R143: with the display on every `TICK` is the next dot of a frame of 154 lines of 456 dots, whatever stretches DRAW. -/
def Obligations.FrameDotAdvances : Prop :=
  ∀ s t : State, s.lineInv → s.lcdEn = true → exec .tick s = .next t →
    t.frameDot = (s.frameDot + 1) % 70224 ∧ t.lcdEn = true ∧ t.lineInv

/-- R333: VBLANK_IRQ, and with it FRAME_READY (R336), is raised in the 65664th `TICK` of a frame and in no other; it recurs
every 70224 `TICK`s. -/
def Obligations.OneVblankPerFrame : Prop :=
  (∀ s t : State, s.lineInv → s.lcdEn = true → exec .tick s = .next t →
    (t.out.signals.vblankIrq = true ↔ s.frameDot = 65663) ∧ (t.out.signals.frameReady = true ↔ s.frameDot = 65663)) ∧
  (∀ s : State, s.inv → s.lcdEn = true → ∃ t, ticks 70224 s = some t ∧ t.frameDot = s.frameDot ∧
    t.cnt.vblankIrq = s.cnt.vblankIrq + 1 ∧ t.cnt.frameReady = s.cnt.frameReady + 1 ∧ t.inv)
end

