-- ==== Sys2Proof/Laws/State.lean ====
section
/-! SUPPORT. What each named update of State leaves in each field: one lemma a field, true by rfl, so that no proof unfolds
a record update. -/

namespace Sys2Proof.Machine

@[simp] theorem State.raise_cfg (s : State) (g : Signal) : (s.raise g).cfg = s.cfg := rfl
@[simp] theorem State.raise_reg (s : State) (g : Signal) : (s.raise g).reg = s.reg := rfl
@[simp] theorem State.raise_ctl (s : State) (g : Signal) : (s.raise g).ctl = s.ctl := rfl
@[simp] theorem State.raise_bg (s : State) (g : Signal) : (s.raise g).bg = s.bg := rfl
@[simp] theorem State.raise_sp (s : State) (g : Signal) : (s.raise g).sp = s.sp := rfl
@[simp] theorem State.raise_lx (s : State) (g : Signal) : (s.raise g).lx = s.lx := rfl
@[simp] theorem State.raise_odma (s : State) (g : Signal) : (s.raise g).odma = s.odma := rfl
@[simp] theorem State.raise_vdma (s : State) (g : Signal) : (s.raise g).vdma = s.vdma := rfl
@[simp] theorem State.raise_mem (s : State) (g : Signal) : (s.raise g).mem = s.mem := rfl
@[simp] theorem State.raise_out (s : State) (g : Signal) : (s.raise g).out = { s.out with signals := s.out.signals.add g } := rfl
@[simp] theorem State.raise_cnt (s : State) (g : Signal) : (s.raise g).cnt = s.cnt := rfl
@[simp] theorem State.raise_events (s : State) (g : Signal) : (s.raise g).events = s.events := rfl

@[simp] theorem State.quiet_cfg (s : State) : s.quiet.cfg = s.cfg := rfl
@[simp] theorem State.quiet_reg (s : State) : s.quiet.reg = s.reg := rfl
@[simp] theorem State.quiet_ctl (s : State) : s.quiet.ctl = s.ctl := rfl
@[simp] theorem State.quiet_bg (s : State) : s.quiet.bg = s.bg := rfl
@[simp] theorem State.quiet_sp (s : State) : s.quiet.sp = s.sp := rfl
@[simp] theorem State.quiet_lx (s : State) : s.quiet.lx = s.lx := rfl
@[simp] theorem State.quiet_odma (s : State) : s.quiet.odma = s.odma := rfl
@[simp] theorem State.quiet_vdma (s : State) : s.quiet.vdma = s.vdma := rfl
@[simp] theorem State.quiet_mem (s : State) : s.quiet.mem = s.mem := rfl
@[simp] theorem State.quiet_out (s : State) : s.quiet.out = Output.none := rfl
@[simp] theorem State.quiet_cnt (s : State) : s.quiet.cnt = s.cnt := rfl
@[simp] theorem State.quiet_events (s : State) : s.quiet.events = s.events := rfl

@[simp] theorem State.answer_cfg (s : State) (r : Byte) : (s.answer r).cfg = s.cfg := rfl
@[simp] theorem State.answer_reg (s : State) (r : Byte) : (s.answer r).reg = s.reg := rfl
@[simp] theorem State.answer_ctl (s : State) (r : Byte) : (s.answer r).ctl = s.ctl := rfl
@[simp] theorem State.answer_bg (s : State) (r : Byte) : (s.answer r).bg = s.bg := rfl
@[simp] theorem State.answer_sp (s : State) (r : Byte) : (s.answer r).sp = s.sp := rfl
@[simp] theorem State.answer_lx (s : State) (r : Byte) : (s.answer r).lx = s.lx := rfl
@[simp] theorem State.answer_odma (s : State) (r : Byte) : (s.answer r).odma = s.odma := rfl
@[simp] theorem State.answer_vdma (s : State) (r : Byte) : (s.answer r).vdma = s.vdma := rfl
@[simp] theorem State.answer_mem (s : State) (r : Byte) : (s.answer r).mem = s.mem := rfl
@[simp] theorem State.answer_out (s : State) (r : Byte) : (s.answer r).out = { signals := Signals.none, data := some r } := rfl
@[simp] theorem State.answer_cnt (s : State) (r : Byte) : (s.answer r).cnt = s.cnt := rfl
@[simp] theorem State.answer_events (s : State) (r : Byte) : (s.answer r).events = s.events := rfl

@[simp] theorem State.countSignals_cfg (s : State) : s.countSignals.cfg = s.cfg := rfl
@[simp] theorem State.countSignals_reg (s : State) : s.countSignals.reg = s.reg := rfl
@[simp] theorem State.countSignals_ctl (s : State) : s.countSignals.ctl = s.ctl := rfl
@[simp] theorem State.countSignals_bg (s : State) : s.countSignals.bg = s.bg := rfl
@[simp] theorem State.countSignals_sp (s : State) : s.countSignals.sp = s.sp := rfl
@[simp] theorem State.countSignals_lx (s : State) : s.countSignals.lx = s.lx := rfl
@[simp] theorem State.countSignals_odma (s : State) : s.countSignals.odma = s.odma := rfl
@[simp] theorem State.countSignals_vdma (s : State) : s.countSignals.vdma = s.vdma := rfl
@[simp] theorem State.countSignals_mem (s : State) : s.countSignals.mem = s.mem := rfl
@[simp] theorem State.countSignals_out (s : State) : s.countSignals.out = s.out := rfl
@[simp] theorem State.countSignals_cnt (s : State) : s.countSignals.cnt = { vblankIrq := s.cnt.vblankIrq + s.out.signals.vblankIrq.toNat, statIrq := s.cnt.statIrq + s.out.signals.statIrq.toNat, frameReady := s.cnt.frameReady + s.out.signals.frameReady.toNat } := rfl
@[simp] theorem State.countSignals_events (s : State) : s.countSignals.events = s.events := rfl

@[simp] theorem State.penalty_cfg (s : State) : s.penalty.cfg = s.cfg := rfl
@[simp] theorem State.penalty_reg (s : State) : s.penalty.reg = s.reg := rfl
@[simp] theorem State.penalty_ctl (s : State) : s.penalty.ctl = { s.ctl with drawLen := s.ctl.drawLen + 1, hblankLen := s.ctl.hblankLen - 1 } := rfl
@[simp] theorem State.penalty_bg (s : State) : s.penalty.bg = s.bg := rfl
@[simp] theorem State.penalty_sp (s : State) : s.penalty.sp = s.sp := rfl
@[simp] theorem State.penalty_lx (s : State) : s.penalty.lx = s.lx := rfl
@[simp] theorem State.penalty_odma (s : State) : s.penalty.odma = s.odma := rfl
@[simp] theorem State.penalty_vdma (s : State) : s.penalty.vdma = s.vdma := rfl
@[simp] theorem State.penalty_mem (s : State) : s.penalty.mem = s.mem := rfl
@[simp] theorem State.penalty_out (s : State) : s.penalty.out = s.out := rfl
@[simp] theorem State.penalty_cnt (s : State) : s.penalty.cnt = s.cnt := rfl
@[simp] theorem State.penalty_events (s : State) : s.penalty.events = s.events := rfl

@[simp] theorem State.poke_cfg (s : State) (p : Space) (a : Nat) (v : Byte) : (s.poke p a v).cfg = s.cfg := rfl
@[simp] theorem State.poke_reg (s : State) (p : Space) (a : Nat) (v : Byte) : (s.poke p a v).reg = s.reg := rfl
@[simp] theorem State.poke_ctl (s : State) (p : Space) (a : Nat) (v : Byte) : (s.poke p a v).ctl = s.ctl := rfl
@[simp] theorem State.poke_bg (s : State) (p : Space) (a : Nat) (v : Byte) : (s.poke p a v).bg = s.bg := rfl
@[simp] theorem State.poke_sp (s : State) (p : Space) (a : Nat) (v : Byte) : (s.poke p a v).sp = s.sp := rfl
@[simp] theorem State.poke_lx (s : State) (p : Space) (a : Nat) (v : Byte) : (s.poke p a v).lx = s.lx := rfl
@[simp] theorem State.poke_odma (s : State) (p : Space) (a : Nat) (v : Byte) : (s.poke p a v).odma = s.odma := rfl
@[simp] theorem State.poke_vdma (s : State) (p : Space) (a : Nat) (v : Byte) : (s.poke p a v).vdma = s.vdma := rfl
@[simp] theorem State.poke_mem (s : State) (p : Space) (a : Nat) (v : Byte) : (s.poke p a v).mem = s.mem.store p a v := rfl
@[simp] theorem State.poke_out (s : State) (p : Space) (a : Nat) (v : Byte) : (s.poke p a v).out = s.out := rfl
@[simp] theorem State.poke_cnt (s : State) (p : Space) (a : Nat) (v : Byte) : (s.poke p a v).cnt = s.cnt := rfl
@[simp] theorem State.poke_events (s : State) (p : Space) (a : Nat) (v : Byte) : (s.poke p a v).events = s.events := rfl

@[simp] theorem State.fbWrite_cfg (s : State) (y x : Nat) (c : Color15) : (s.fbWrite y x c).cfg = s.cfg := rfl
@[simp] theorem State.fbWrite_reg (s : State) (y x : Nat) (c : Color15) : (s.fbWrite y x c).reg = s.reg := rfl
@[simp] theorem State.fbWrite_ctl (s : State) (y x : Nat) (c : Color15) : (s.fbWrite y x c).ctl = s.ctl := rfl
@[simp] theorem State.fbWrite_bg (s : State) (y x : Nat) (c : Color15) : (s.fbWrite y x c).bg = s.bg := rfl
@[simp] theorem State.fbWrite_sp (s : State) (y x : Nat) (c : Color15) : (s.fbWrite y x c).sp = s.sp := rfl
@[simp] theorem State.fbWrite_lx (s : State) (y x : Nat) (c : Color15) : (s.fbWrite y x c).lx = s.lx := rfl
@[simp] theorem State.fbWrite_odma (s : State) (y x : Nat) (c : Color15) : (s.fbWrite y x c).odma = s.odma := rfl
@[simp] theorem State.fbWrite_vdma (s : State) (y x : Nat) (c : Color15) : (s.fbWrite y x c).vdma = s.vdma := rfl
@[simp] theorem State.fbWrite_mem (s : State) (y x : Nat) (c : Color15) : (s.fbWrite y x c).mem = { s.mem with fb := s.mem.fb.write (fbKey y x) c } := rfl
@[simp] theorem State.fbWrite_out (s : State) (y x : Nat) (c : Color15) : (s.fbWrite y x c).out = s.out := rfl
@[simp] theorem State.fbWrite_cnt (s : State) (y x : Nat) (c : Color15) : (s.fbWrite y x c).cnt = s.cnt := rfl
@[simp] theorem State.fbWrite_events (s : State) (y x : Nat) (c : Color15) : (s.fbWrite y x c).events = s.events := rfl

@[simp] theorem State.setVdmaMode_cfg (s : State) (m : VdmaMode) : (s.setVdmaMode m).cfg = s.cfg := rfl
@[simp] theorem State.setVdmaMode_reg (s : State) (m : VdmaMode) : (s.setVdmaMode m).reg = s.reg := rfl
@[simp] theorem State.setVdmaMode_ctl (s : State) (m : VdmaMode) : (s.setVdmaMode m).ctl = s.ctl := rfl
@[simp] theorem State.setVdmaMode_bg (s : State) (m : VdmaMode) : (s.setVdmaMode m).bg = s.bg := rfl
@[simp] theorem State.setVdmaMode_sp (s : State) (m : VdmaMode) : (s.setVdmaMode m).sp = s.sp := rfl
@[simp] theorem State.setVdmaMode_lx (s : State) (m : VdmaMode) : (s.setVdmaMode m).lx = s.lx := rfl
@[simp] theorem State.setVdmaMode_odma (s : State) (m : VdmaMode) : (s.setVdmaMode m).odma = s.odma := rfl
@[simp] theorem State.setVdmaMode_vdma (s : State) (m : VdmaMode) : (s.setVdmaMode m).vdma = { s.vdma with mode := m } := rfl
@[simp] theorem State.setVdmaMode_mem (s : State) (m : VdmaMode) : (s.setVdmaMode m).mem = s.mem := rfl
@[simp] theorem State.setVdmaMode_out (s : State) (m : VdmaMode) : (s.setVdmaMode m).out = s.out := rfl
@[simp] theorem State.setVdmaMode_cnt (s : State) (m : VdmaMode) : (s.setVdmaMode m).cnt = s.cnt := rfl
@[simp] theorem State.setVdmaMode_events (s : State) (m : VdmaMode) : (s.setVdmaMode m).events = s.events := rfl

@[simp] theorem State.vdmaLoad_cfg (s : State) (v : Byte) : (s.vdmaLoad v).cfg = s.cfg := rfl
@[simp] theorem State.vdmaLoad_reg (s : State) (v : Byte) : (s.vdmaLoad v).reg = s.reg := rfl
@[simp] theorem State.vdmaLoad_ctl (s : State) (v : Byte) : (s.vdmaLoad v).ctl = s.ctl := rfl
@[simp] theorem State.vdmaLoad_bg (s : State) (v : Byte) : (s.vdmaLoad v).bg = s.bg := rfl
@[simp] theorem State.vdmaLoad_sp (s : State) (v : Byte) : (s.vdmaLoad v).sp = s.sp := rfl
@[simp] theorem State.vdmaLoad_lx (s : State) (v : Byte) : (s.vdmaLoad v).lx = s.lx := rfl
@[simp] theorem State.vdmaLoad_odma (s : State) (v : Byte) : (s.vdmaLoad v).odma = s.odma := rfl
@[simp] theorem State.vdmaLoad_vdma (s : State) (v : Byte) : (s.vdmaLoad v).vdma = { s.vdma with src := vdmaSource s.reg.hdma1 s.reg.hdma2, dst := vdmaDest s.reg.hdma3 s.reg.hdma4, blocks := vdmaBlocksOf v, len := vdmaLenField v } := rfl
@[simp] theorem State.vdmaLoad_mem (s : State) (v : Byte) : (s.vdmaLoad v).mem = s.mem := rfl
@[simp] theorem State.vdmaLoad_out (s : State) (v : Byte) : (s.vdmaLoad v).out = s.out := rfl
@[simp] theorem State.vdmaLoad_cnt (s : State) (v : Byte) : (s.vdmaLoad v).cnt = s.cnt := rfl
@[simp] theorem State.vdmaLoad_events (s : State) (v : Byte) : (s.vdmaLoad v).events = s.events := rfl

@[simp] theorem State.vdmaComplete_cfg (s : State) : s.vdmaComplete.cfg = s.cfg := rfl
@[simp] theorem State.vdmaComplete_reg (s : State) : s.vdmaComplete.reg = s.reg := rfl
@[simp] theorem State.vdmaComplete_ctl (s : State) : s.vdmaComplete.ctl = s.ctl := rfl
@[simp] theorem State.vdmaComplete_bg (s : State) : s.vdmaComplete.bg = s.bg := rfl
@[simp] theorem State.vdmaComplete_sp (s : State) : s.vdmaComplete.sp = s.sp := rfl
@[simp] theorem State.vdmaComplete_lx (s : State) : s.vdmaComplete.lx = s.lx := rfl
@[simp] theorem State.vdmaComplete_odma (s : State) : s.vdmaComplete.odma = s.odma := rfl
@[simp] theorem State.vdmaComplete_vdma (s : State) : s.vdmaComplete.vdma = { s.vdma with mode := .idle, blocks := 0, len := 0x7F#7 } := rfl
@[simp] theorem State.vdmaComplete_mem (s : State) : s.vdmaComplete.mem = s.mem := rfl
@[simp] theorem State.vdmaComplete_out (s : State) : s.vdmaComplete.out = s.out := rfl
@[simp] theorem State.vdmaComplete_cnt (s : State) : s.vdmaComplete.cnt = s.cnt := rfl
@[simp] theorem State.vdmaComplete_events (s : State) : s.vdmaComplete.events = s.events := rfl

@[simp] theorem State.silent_cfg (s : State) : s.silent.cfg = s.cfg := rfl
@[simp] theorem State.silent_reg (s : State) : s.silent.reg = s.reg := rfl
@[simp] theorem State.silent_ctl (s : State) : s.silent.ctl = s.ctl := rfl
@[simp] theorem State.silent_bg (s : State) : s.silent.bg = s.bg := rfl
@[simp] theorem State.silent_sp (s : State) : s.silent.sp = s.sp := rfl
@[simp] theorem State.silent_lx (s : State) : s.silent.lx = s.lx := rfl
@[simp] theorem State.silent_odma (s : State) : s.silent.odma = s.odma := rfl
@[simp] theorem State.silent_vdma (s : State) : s.silent.vdma = s.vdma := rfl
@[simp] theorem State.silent_mem (s : State) : s.silent.mem = s.mem := rfl
@[simp] theorem State.silent_out (s : State) : s.silent.out = { signals := noSignals, data := none } := rfl
@[simp] theorem State.silent_cnt (s : State) : s.silent.cnt = s.cnt := rfl
@[simp] theorem State.silent_events (s : State) : s.silent.events = s.events := rfl

@[simp] theorem State.withAnswer_cfg (s : State) (r : Byte) : (s.withAnswer r).cfg = s.cfg := rfl
@[simp] theorem State.withAnswer_reg (s : State) (r : Byte) : (s.withAnswer r).reg = s.reg := rfl
@[simp] theorem State.withAnswer_ctl (s : State) (r : Byte) : (s.withAnswer r).ctl = s.ctl := rfl
@[simp] theorem State.withAnswer_bg (s : State) (r : Byte) : (s.withAnswer r).bg = s.bg := rfl
@[simp] theorem State.withAnswer_sp (s : State) (r : Byte) : (s.withAnswer r).sp = s.sp := rfl
@[simp] theorem State.withAnswer_lx (s : State) (r : Byte) : (s.withAnswer r).lx = s.lx := rfl
@[simp] theorem State.withAnswer_odma (s : State) (r : Byte) : (s.withAnswer r).odma = s.odma := rfl
@[simp] theorem State.withAnswer_vdma (s : State) (r : Byte) : (s.withAnswer r).vdma = s.vdma := rfl
@[simp] theorem State.withAnswer_mem (s : State) (r : Byte) : (s.withAnswer r).mem = s.mem := rfl
@[simp] theorem State.withAnswer_out (s : State) (r : Byte) : (s.withAnswer r).out = { signals := noSignals, data := some r } := rfl
@[simp] theorem State.withAnswer_cnt (s : State) (r : Byte) : (s.withAnswer r).cnt = s.cnt := rfl
@[simp] theorem State.withAnswer_events (s : State) (r : Byte) : (s.withAnswer r).events = s.events := rfl

@[simp] theorem State.withSignals_cfg (s : State) (g : Signals) : (s.withSignals g).cfg = s.cfg := rfl
@[simp] theorem State.withSignals_reg (s : State) (g : Signals) : (s.withSignals g).reg = s.reg := rfl
@[simp] theorem State.withSignals_ctl (s : State) (g : Signals) : (s.withSignals g).ctl = s.ctl := rfl
@[simp] theorem State.withSignals_bg (s : State) (g : Signals) : (s.withSignals g).bg = s.bg := rfl
@[simp] theorem State.withSignals_sp (s : State) (g : Signals) : (s.withSignals g).sp = s.sp := rfl
@[simp] theorem State.withSignals_lx (s : State) (g : Signals) : (s.withSignals g).lx = s.lx := rfl
@[simp] theorem State.withSignals_odma (s : State) (g : Signals) : (s.withSignals g).odma = s.odma := rfl
@[simp] theorem State.withSignals_vdma (s : State) (g : Signals) : (s.withSignals g).vdma = s.vdma := rfl
@[simp] theorem State.withSignals_mem (s : State) (g : Signals) : (s.withSignals g).mem = s.mem := rfl
@[simp] theorem State.withSignals_out (s : State) (g : Signals) : (s.withSignals g).out = { signals := g, data := none } := rfl
@[simp] theorem State.withSignals_cnt (s : State) (g : Signals) : (s.withSignals g).cnt = { vblankIrq := s.cnt.vblankIrq + (if g.vblankIrq then 1 else 0), statIrq := s.cnt.statIrq + (if g.statIrq then 1 else 0), frameReady := s.cnt.frameReady + (if g.frameReady then 1 else 0) } := rfl
@[simp] theorem State.withSignals_events (s : State) (g : Signals) : (s.withSignals g).events = s.events := rfl

@[simp] theorem State.setFb_cfg (s : State) (fb : Memory Color15) : (s.setFb fb).cfg = s.cfg := rfl
@[simp] theorem State.setFb_reg (s : State) (fb : Memory Color15) : (s.setFb fb).reg = s.reg := rfl
@[simp] theorem State.setFb_ctl (s : State) (fb : Memory Color15) : (s.setFb fb).ctl = s.ctl := rfl
@[simp] theorem State.setFb_bg (s : State) (fb : Memory Color15) : (s.setFb fb).bg = s.bg := rfl
@[simp] theorem State.setFb_sp (s : State) (fb : Memory Color15) : (s.setFb fb).sp = s.sp := rfl
@[simp] theorem State.setFb_lx (s : State) (fb : Memory Color15) : (s.setFb fb).lx = s.lx := rfl
@[simp] theorem State.setFb_odma (s : State) (fb : Memory Color15) : (s.setFb fb).odma = s.odma := rfl
@[simp] theorem State.setFb_vdma (s : State) (fb : Memory Color15) : (s.setFb fb).vdma = s.vdma := rfl
@[simp] theorem State.setFb_mem (s : State) (fb : Memory Color15) : (s.setFb fb).mem = { s.mem with fb := fb } := rfl
@[simp] theorem State.setFb_out (s : State) (fb : Memory Color15) : (s.setFb fb).out = s.out := rfl
@[simp] theorem State.setFb_cnt (s : State) (fb : Memory Color15) : (s.setFb fb).cnt = s.cnt := rfl
@[simp] theorem State.setFb_events (s : State) (fb : Memory Color15) : (s.setFb fb).events = s.events := rfl

end Sys2Proof.Machine
end

