-- ==== Sys2Proof/Laws/Frames.lean ====
section
/-! SUPPORT. The frame of each shared operation: `op_frame` says at once which groups of State it can change, and one simp
lemma says so for each group it leaves alone. -/

namespace Sys2Proof.Machine


theorem raiseIf_frame (s : State) (c : Bool) (g : Signal) :
    s.raiseIf c g = { s with out := (s.raiseIf c g).out } := by unfold State.raiseIf; split <;> rfl
@[simp] theorem State.raiseIf_cfg (s : State) (c : Bool) (g : Signal) : (s.raiseIf c g).cfg = s.cfg := (congrArg State.cfg (raiseIf_frame s c g) :)
@[simp] theorem State.raiseIf_reg (s : State) (c : Bool) (g : Signal) : (s.raiseIf c g).reg = s.reg := (congrArg State.reg (raiseIf_frame s c g) :)
@[simp] theorem State.raiseIf_ctl (s : State) (c : Bool) (g : Signal) : (s.raiseIf c g).ctl = s.ctl := (congrArg State.ctl (raiseIf_frame s c g) :)
@[simp] theorem State.raiseIf_bg (s : State) (c : Bool) (g : Signal) : (s.raiseIf c g).bg = s.bg := (congrArg State.bg (raiseIf_frame s c g) :)
@[simp] theorem State.raiseIf_sp (s : State) (c : Bool) (g : Signal) : (s.raiseIf c g).sp = s.sp := (congrArg State.sp (raiseIf_frame s c g) :)
@[simp] theorem State.raiseIf_lx (s : State) (c : Bool) (g : Signal) : (s.raiseIf c g).lx = s.lx := (congrArg State.lx (raiseIf_frame s c g) :)
@[simp] theorem State.raiseIf_odma (s : State) (c : Bool) (g : Signal) : (s.raiseIf c g).odma = s.odma := (congrArg State.odma (raiseIf_frame s c g) :)
@[simp] theorem State.raiseIf_vdma (s : State) (c : Bool) (g : Signal) : (s.raiseIf c g).vdma = s.vdma := (congrArg State.vdma (raiseIf_frame s c g) :)
@[simp] theorem State.raiseIf_mem (s : State) (c : Bool) (g : Signal) : (s.raiseIf c g).mem = s.mem := (congrArg State.mem (raiseIf_frame s c g) :)
@[simp] theorem State.raiseIf_cnt (s : State) (c : Bool) (g : Signal) : (s.raiseIf c g).cnt = s.cnt := (congrArg State.cnt (raiseIf_frame s c g) :)
@[simp] theorem State.raiseIf_events (s : State) (c : Bool) (g : Signal) : (s.raiseIf c g).events = s.events := (congrArg State.events (raiseIf_frame s c g) :)

theorem vramWrite_frame (s : State) (k : BitVec 1) (a : Nat) (v : Byte) :
    s.vramWrite k a v = { s with mem := (s.vramWrite k a v).mem } := rfl
@[simp] theorem State.vramWrite_cfg (s : State) (k : BitVec 1) (a : Nat) (v : Byte) : (s.vramWrite k a v).cfg = s.cfg := (congrArg State.cfg (vramWrite_frame s k a v) :)
@[simp] theorem State.vramWrite_reg (s : State) (k : BitVec 1) (a : Nat) (v : Byte) : (s.vramWrite k a v).reg = s.reg := (congrArg State.reg (vramWrite_frame s k a v) :)
@[simp] theorem State.vramWrite_ctl (s : State) (k : BitVec 1) (a : Nat) (v : Byte) : (s.vramWrite k a v).ctl = s.ctl := (congrArg State.ctl (vramWrite_frame s k a v) :)
@[simp] theorem State.vramWrite_bg (s : State) (k : BitVec 1) (a : Nat) (v : Byte) : (s.vramWrite k a v).bg = s.bg := (congrArg State.bg (vramWrite_frame s k a v) :)
@[simp] theorem State.vramWrite_sp (s : State) (k : BitVec 1) (a : Nat) (v : Byte) : (s.vramWrite k a v).sp = s.sp := (congrArg State.sp (vramWrite_frame s k a v) :)
@[simp] theorem State.vramWrite_lx (s : State) (k : BitVec 1) (a : Nat) (v : Byte) : (s.vramWrite k a v).lx = s.lx := (congrArg State.lx (vramWrite_frame s k a v) :)
@[simp] theorem State.vramWrite_odma (s : State) (k : BitVec 1) (a : Nat) (v : Byte) : (s.vramWrite k a v).odma = s.odma := (congrArg State.odma (vramWrite_frame s k a v) :)
@[simp] theorem State.vramWrite_vdma (s : State) (k : BitVec 1) (a : Nat) (v : Byte) : (s.vramWrite k a v).vdma = s.vdma := (congrArg State.vdma (vramWrite_frame s k a v) :)
@[simp] theorem State.vramWrite_out (s : State) (k : BitVec 1) (a : Nat) (v : Byte) : (s.vramWrite k a v).out = s.out := (congrArg State.out (vramWrite_frame s k a v) :)
@[simp] theorem State.vramWrite_cnt (s : State) (k : BitVec 1) (a : Nat) (v : Byte) : (s.vramWrite k a v).cnt = s.cnt := (congrArg State.cnt (vramWrite_frame s k a v) :)
@[simp] theorem State.vramWrite_events (s : State) (k : BitVec 1) (a : Nat) (v : Byte) : (s.vramWrite k a v).events = s.events := (congrArg State.events (vramWrite_frame s k a v) :)

theorem oamWrite_frame (s : State) (a : Nat) (v : Byte) :
    s.oamWrite a v = { s with mem := (s.oamWrite a v).mem } := rfl
@[simp] theorem State.oamWrite_cfg (s : State) (a : Nat) (v : Byte) : (s.oamWrite a v).cfg = s.cfg := (congrArg State.cfg (oamWrite_frame s a v) :)
@[simp] theorem State.oamWrite_reg (s : State) (a : Nat) (v : Byte) : (s.oamWrite a v).reg = s.reg := (congrArg State.reg (oamWrite_frame s a v) :)
@[simp] theorem State.oamWrite_ctl (s : State) (a : Nat) (v : Byte) : (s.oamWrite a v).ctl = s.ctl := (congrArg State.ctl (oamWrite_frame s a v) :)
@[simp] theorem State.oamWrite_bg (s : State) (a : Nat) (v : Byte) : (s.oamWrite a v).bg = s.bg := (congrArg State.bg (oamWrite_frame s a v) :)
@[simp] theorem State.oamWrite_sp (s : State) (a : Nat) (v : Byte) : (s.oamWrite a v).sp = s.sp := (congrArg State.sp (oamWrite_frame s a v) :)
@[simp] theorem State.oamWrite_lx (s : State) (a : Nat) (v : Byte) : (s.oamWrite a v).lx = s.lx := (congrArg State.lx (oamWrite_frame s a v) :)
@[simp] theorem State.oamWrite_odma (s : State) (a : Nat) (v : Byte) : (s.oamWrite a v).odma = s.odma := (congrArg State.odma (oamWrite_frame s a v) :)
@[simp] theorem State.oamWrite_vdma (s : State) (a : Nat) (v : Byte) : (s.oamWrite a v).vdma = s.vdma := (congrArg State.vdma (oamWrite_frame s a v) :)
@[simp] theorem State.oamWrite_out (s : State) (a : Nat) (v : Byte) : (s.oamWrite a v).out = s.out := (congrArg State.out (oamWrite_frame s a v) :)
@[simp] theorem State.oamWrite_cnt (s : State) (a : Nat) (v : Byte) : (s.oamWrite a v).cnt = s.cnt := (congrArg State.cnt (oamWrite_frame s a v) :)
@[simp] theorem State.oamWrite_events (s : State) (a : Nat) (v : Byte) : (s.oamWrite a v).events = s.events := (congrArg State.events (oamWrite_frame s a v) :)

theorem enterWindow_frame (s : State) :
    s.enterWindow = { s with bg := s.enterWindow.bg, ctl := s.enterWindow.ctl } := by unfold State.enterWindow; dsimp only; split <;> rfl
@[simp] theorem State.enterWindow_cfg (s : State) : s.enterWindow.cfg = s.cfg := (congrArg State.cfg (enterWindow_frame s) :)
@[simp] theorem State.enterWindow_reg (s : State) : s.enterWindow.reg = s.reg := (congrArg State.reg (enterWindow_frame s) :)
@[simp] theorem State.enterWindow_sp (s : State) : s.enterWindow.sp = s.sp := (congrArg State.sp (enterWindow_frame s) :)
@[simp] theorem State.enterWindow_lx (s : State) : s.enterWindow.lx = s.lx := (congrArg State.lx (enterWindow_frame s) :)
@[simp] theorem State.enterWindow_odma (s : State) : s.enterWindow.odma = s.odma := (congrArg State.odma (enterWindow_frame s) :)
@[simp] theorem State.enterWindow_vdma (s : State) : s.enterWindow.vdma = s.vdma := (congrArg State.vdma (enterWindow_frame s) :)
@[simp] theorem State.enterWindow_mem (s : State) : s.enterWindow.mem = s.mem := (congrArg State.mem (enterWindow_frame s) :)
@[simp] theorem State.enterWindow_out (s : State) : s.enterWindow.out = s.out := (congrArg State.out (enterWindow_frame s) :)
@[simp] theorem State.enterWindow_cnt (s : State) : s.enterWindow.cnt = s.cnt := (congrArg State.cnt (enterWindow_frame s) :)
@[simp] theorem State.enterWindow_events (s : State) : s.enterWindow.events = s.events := (congrArg State.events (enterWindow_frame s) :)

theorem windowEntryCheck_frame (s : State) :
    s.windowEntryCheck = { s with bg := s.windowEntryCheck.bg, ctl := s.windowEntryCheck.ctl } := by unfold State.windowEntryCheck; split; exacts [enterWindow_frame s, rfl]
@[simp] theorem State.windowEntryCheck_cfg (s : State) : s.windowEntryCheck.cfg = s.cfg := (congrArg State.cfg (windowEntryCheck_frame s) :)
@[simp] theorem State.windowEntryCheck_reg (s : State) : s.windowEntryCheck.reg = s.reg := (congrArg State.reg (windowEntryCheck_frame s) :)
@[simp] theorem State.windowEntryCheck_sp (s : State) : s.windowEntryCheck.sp = s.sp := (congrArg State.sp (windowEntryCheck_frame s) :)
@[simp] theorem State.windowEntryCheck_lx (s : State) : s.windowEntryCheck.lx = s.lx := (congrArg State.lx (windowEntryCheck_frame s) :)
@[simp] theorem State.windowEntryCheck_odma (s : State) : s.windowEntryCheck.odma = s.odma := (congrArg State.odma (windowEntryCheck_frame s) :)
@[simp] theorem State.windowEntryCheck_vdma (s : State) : s.windowEntryCheck.vdma = s.vdma := (congrArg State.vdma (windowEntryCheck_frame s) :)
@[simp] theorem State.windowEntryCheck_mem (s : State) : s.windowEntryCheck.mem = s.mem := (congrArg State.mem (windowEntryCheck_frame s) :)
@[simp] theorem State.windowEntryCheck_out (s : State) : s.windowEntryCheck.out = s.out := (congrArg State.out (windowEntryCheck_frame s) :)
@[simp] theorem State.windowEntryCheck_cnt (s : State) : s.windowEntryCheck.cnt = s.cnt := (congrArg State.cnt (windowEntryCheck_frame s) :)
@[simp] theorem State.windowEntryCheck_events (s : State) : s.windowEntryCheck.events = s.events := (congrArg State.events (windowEntryCheck_frame s) :)

theorem getTile_frame (s : State) :
    s.getTile = { s with bg := s.getTile.bg } := rfl
@[simp] theorem State.getTile_cfg (s : State) : s.getTile.cfg = s.cfg := (congrArg State.cfg (getTile_frame s) :)
@[simp] theorem State.getTile_reg (s : State) : s.getTile.reg = s.reg := (congrArg State.reg (getTile_frame s) :)
@[simp] theorem State.getTile_ctl (s : State) : s.getTile.ctl = s.ctl := (congrArg State.ctl (getTile_frame s) :)
@[simp] theorem State.getTile_sp (s : State) : s.getTile.sp = s.sp := (congrArg State.sp (getTile_frame s) :)
@[simp] theorem State.getTile_lx (s : State) : s.getTile.lx = s.lx := (congrArg State.lx (getTile_frame s) :)
@[simp] theorem State.getTile_odma (s : State) : s.getTile.odma = s.odma := (congrArg State.odma (getTile_frame s) :)
@[simp] theorem State.getTile_vdma (s : State) : s.getTile.vdma = s.vdma := (congrArg State.vdma (getTile_frame s) :)
@[simp] theorem State.getTile_mem (s : State) : s.getTile.mem = s.mem := (congrArg State.mem (getTile_frame s) :)
@[simp] theorem State.getTile_out (s : State) : s.getTile.out = s.out := (congrArg State.out (getTile_frame s) :)
@[simp] theorem State.getTile_cnt (s : State) : s.getTile.cnt = s.cnt := (congrArg State.cnt (getTile_frame s) :)
@[simp] theorem State.getTile_events (s : State) : s.getTile.events = s.events := (congrArg State.events (getTile_frame s) :)

theorem getTileData_frame (s : State) :
    s.getTileData = { s with bg := s.getTileData.bg } := rfl
@[simp] theorem State.getTileData_cfg (s : State) : s.getTileData.cfg = s.cfg := (congrArg State.cfg (getTileData_frame s) :)
@[simp] theorem State.getTileData_reg (s : State) : s.getTileData.reg = s.reg := (congrArg State.reg (getTileData_frame s) :)
@[simp] theorem State.getTileData_ctl (s : State) : s.getTileData.ctl = s.ctl := (congrArg State.ctl (getTileData_frame s) :)
@[simp] theorem State.getTileData_sp (s : State) : s.getTileData.sp = s.sp := (congrArg State.sp (getTileData_frame s) :)
@[simp] theorem State.getTileData_lx (s : State) : s.getTileData.lx = s.lx := (congrArg State.lx (getTileData_frame s) :)
@[simp] theorem State.getTileData_odma (s : State) : s.getTileData.odma = s.odma := (congrArg State.odma (getTileData_frame s) :)
@[simp] theorem State.getTileData_vdma (s : State) : s.getTileData.vdma = s.vdma := (congrArg State.vdma (getTileData_frame s) :)
@[simp] theorem State.getTileData_mem (s : State) : s.getTileData.mem = s.mem := (congrArg State.mem (getTileData_frame s) :)
@[simp] theorem State.getTileData_out (s : State) : s.getTileData.out = s.out := (congrArg State.out (getTileData_frame s) :)
@[simp] theorem State.getTileData_cnt (s : State) : s.getTileData.cnt = s.cnt := (congrArg State.cnt (getTileData_frame s) :)
@[simp] theorem State.getTileData_events (s : State) : s.getTileData.events = s.events := (congrArg State.events (getTileData_frame s) :)

theorem scrollDiscard_frame (s : State) :
    s.scrollDiscard = { s with bg := s.scrollDiscard.bg } := by unfold State.scrollDiscard; split <;> rfl
@[simp] theorem State.scrollDiscard_cfg (s : State) : s.scrollDiscard.cfg = s.cfg := (congrArg State.cfg (scrollDiscard_frame s) :)
@[simp] theorem State.scrollDiscard_reg (s : State) : s.scrollDiscard.reg = s.reg := (congrArg State.reg (scrollDiscard_frame s) :)
@[simp] theorem State.scrollDiscard_ctl (s : State) : s.scrollDiscard.ctl = s.ctl := (congrArg State.ctl (scrollDiscard_frame s) :)
@[simp] theorem State.scrollDiscard_sp (s : State) : s.scrollDiscard.sp = s.sp := (congrArg State.sp (scrollDiscard_frame s) :)
@[simp] theorem State.scrollDiscard_lx (s : State) : s.scrollDiscard.lx = s.lx := (congrArg State.lx (scrollDiscard_frame s) :)
@[simp] theorem State.scrollDiscard_odma (s : State) : s.scrollDiscard.odma = s.odma := (congrArg State.odma (scrollDiscard_frame s) :)
@[simp] theorem State.scrollDiscard_vdma (s : State) : s.scrollDiscard.vdma = s.vdma := (congrArg State.vdma (scrollDiscard_frame s) :)
@[simp] theorem State.scrollDiscard_mem (s : State) : s.scrollDiscard.mem = s.mem := (congrArg State.mem (scrollDiscard_frame s) :)
@[simp] theorem State.scrollDiscard_out (s : State) : s.scrollDiscard.out = s.out := (congrArg State.out (scrollDiscard_frame s) :)
@[simp] theorem State.scrollDiscard_cnt (s : State) : s.scrollDiscard.cnt = s.cnt := (congrArg State.cnt (scrollDiscard_frame s) :)
@[simp] theorem State.scrollDiscard_events (s : State) : s.scrollDiscard.events = s.events := (congrArg State.events (scrollDiscard_frame s) :)

theorem push_frame (s : State) :
    s.push = { s with bg := s.push.bg } := by unfold State.push; rw [scrollDiscard_frame]
@[simp] theorem State.push_cfg (s : State) : s.push.cfg = s.cfg := (congrArg State.cfg (push_frame s) :)
@[simp] theorem State.push_reg (s : State) : s.push.reg = s.reg := (congrArg State.reg (push_frame s) :)
@[simp] theorem State.push_ctl (s : State) : s.push.ctl = s.ctl := (congrArg State.ctl (push_frame s) :)
@[simp] theorem State.push_sp (s : State) : s.push.sp = s.sp := (congrArg State.sp (push_frame s) :)
@[simp] theorem State.push_lx (s : State) : s.push.lx = s.lx := (congrArg State.lx (push_frame s) :)
@[simp] theorem State.push_odma (s : State) : s.push.odma = s.odma := (congrArg State.odma (push_frame s) :)
@[simp] theorem State.push_vdma (s : State) : s.push.vdma = s.vdma := (congrArg State.vdma (push_frame s) :)
@[simp] theorem State.push_mem (s : State) : s.push.mem = s.mem := (congrArg State.mem (push_frame s) :)
@[simp] theorem State.push_out (s : State) : s.push.out = s.out := (congrArg State.out (push_frame s) :)
@[simp] theorem State.push_cnt (s : State) : s.push.cnt = s.cnt := (congrArg State.cnt (push_frame s) :)
@[simp] theorem State.push_events (s : State) : s.push.events = s.events := (congrArg State.events (push_frame s) :)

theorem tryPush_frame (s : State) :
    s.tryPush = { s with bg := s.tryPush.bg } := by unfold State.tryPush; split; (rw [push_frame]); rfl
@[simp] theorem State.tryPush_cfg (s : State) : s.tryPush.cfg = s.cfg := (congrArg State.cfg (tryPush_frame s) :)
@[simp] theorem State.tryPush_reg (s : State) : s.tryPush.reg = s.reg := (congrArg State.reg (tryPush_frame s) :)
@[simp] theorem State.tryPush_ctl (s : State) : s.tryPush.ctl = s.ctl := (congrArg State.ctl (tryPush_frame s) :)
@[simp] theorem State.tryPush_sp (s : State) : s.tryPush.sp = s.sp := (congrArg State.sp (tryPush_frame s) :)
@[simp] theorem State.tryPush_lx (s : State) : s.tryPush.lx = s.lx := (congrArg State.lx (tryPush_frame s) :)
@[simp] theorem State.tryPush_odma (s : State) : s.tryPush.odma = s.odma := (congrArg State.odma (tryPush_frame s) :)
@[simp] theorem State.tryPush_vdma (s : State) : s.tryPush.vdma = s.vdma := (congrArg State.vdma (tryPush_frame s) :)
@[simp] theorem State.tryPush_mem (s : State) : s.tryPush.mem = s.mem := (congrArg State.mem (tryPush_frame s) :)
@[simp] theorem State.tryPush_out (s : State) : s.tryPush.out = s.out := (congrArg State.out (tryPush_frame s) :)
@[simp] theorem State.tryPush_cnt (s : State) : s.tryPush.cnt = s.cnt := (congrArg State.cnt (tryPush_frame s) :)
@[simp] theorem State.tryPush_events (s : State) : s.tryPush.events = s.events := (congrArg State.events (tryPush_frame s) :)

theorem bgStageDot_frame (s : State) :
    s.bgStageDot = { s with bg := s.bgStageDot.bg } := by
  unfold State.bgStageDot; dsimp only; split
  · split <;> rfl
  · split <;> rfl
  · split
    · rw [tryPush_frame]
    · rfl
  · exact tryPush_frame s
  · exact tryPush_frame s
@[simp] theorem State.bgStageDot_cfg (s : State) : s.bgStageDot.cfg = s.cfg := (congrArg State.cfg (bgStageDot_frame s) :)
@[simp] theorem State.bgStageDot_reg (s : State) : s.bgStageDot.reg = s.reg := (congrArg State.reg (bgStageDot_frame s) :)
@[simp] theorem State.bgStageDot_ctl (s : State) : s.bgStageDot.ctl = s.ctl := (congrArg State.ctl (bgStageDot_frame s) :)
@[simp] theorem State.bgStageDot_sp (s : State) : s.bgStageDot.sp = s.sp := (congrArg State.sp (bgStageDot_frame s) :)
@[simp] theorem State.bgStageDot_lx (s : State) : s.bgStageDot.lx = s.lx := (congrArg State.lx (bgStageDot_frame s) :)
@[simp] theorem State.bgStageDot_odma (s : State) : s.bgStageDot.odma = s.odma := (congrArg State.odma (bgStageDot_frame s) :)
@[simp] theorem State.bgStageDot_vdma (s : State) : s.bgStageDot.vdma = s.vdma := (congrArg State.vdma (bgStageDot_frame s) :)
@[simp] theorem State.bgStageDot_mem (s : State) : s.bgStageDot.mem = s.mem := (congrArg State.mem (bgStageDot_frame s) :)
@[simp] theorem State.bgStageDot_out (s : State) : s.bgStageDot.out = s.out := (congrArg State.out (bgStageDot_frame s) :)
@[simp] theorem State.bgStageDot_cnt (s : State) : s.bgStageDot.cnt = s.cnt := (congrArg State.cnt (bgStageDot_frame s) :)
@[simp] theorem State.bgStageDot_events (s : State) : s.bgStageDot.events = s.events := (congrArg State.events (bgStageDot_frame s) :)

theorem bgStep_frame (s : State) :
    s.bgStep = { s with bg := s.bgStep.bg, ctl := s.bgStep.ctl } := by
  unfold State.bgStep; dsimp only; split
  · rw [windowEntryCheck_frame]
  · rw [bgStageDot_frame, windowEntryCheck_frame]
@[simp] theorem State.bgStep_cfg (s : State) : s.bgStep.cfg = s.cfg := (congrArg State.cfg (bgStep_frame s) :)
@[simp] theorem State.bgStep_reg (s : State) : s.bgStep.reg = s.reg := (congrArg State.reg (bgStep_frame s) :)
@[simp] theorem State.bgStep_sp (s : State) : s.bgStep.sp = s.sp := (congrArg State.sp (bgStep_frame s) :)
@[simp] theorem State.bgStep_lx (s : State) : s.bgStep.lx = s.lx := (congrArg State.lx (bgStep_frame s) :)
@[simp] theorem State.bgStep_odma (s : State) : s.bgStep.odma = s.odma := (congrArg State.odma (bgStep_frame s) :)
@[simp] theorem State.bgStep_vdma (s : State) : s.bgStep.vdma = s.vdma := (congrArg State.vdma (bgStep_frame s) :)
@[simp] theorem State.bgStep_mem (s : State) : s.bgStep.mem = s.mem := (congrArg State.mem (bgStep_frame s) :)
@[simp] theorem State.bgStep_out (s : State) : s.bgStep.out = s.out := (congrArg State.out (bgStep_frame s) :)
@[simp] theorem State.bgStep_cnt (s : State) : s.bgStep.cnt = s.cnt := (congrArg State.cnt (bgStep_frame s) :)
@[simp] theorem State.bgStep_events (s : State) : s.bgStep.events = s.events := (congrArg State.events (bgStep_frame s) :)

theorem collectSprites_frame (s : State) :
    s.collectSprites = { s with sp := s.collectSprites.sp } := rfl
@[simp] theorem State.collectSprites_cfg (s : State) : s.collectSprites.cfg = s.cfg := (congrArg State.cfg (collectSprites_frame s) :)
@[simp] theorem State.collectSprites_reg (s : State) : s.collectSprites.reg = s.reg := (congrArg State.reg (collectSprites_frame s) :)
@[simp] theorem State.collectSprites_ctl (s : State) : s.collectSprites.ctl = s.ctl := (congrArg State.ctl (collectSprites_frame s) :)
@[simp] theorem State.collectSprites_bg (s : State) : s.collectSprites.bg = s.bg := (congrArg State.bg (collectSprites_frame s) :)
@[simp] theorem State.collectSprites_lx (s : State) : s.collectSprites.lx = s.lx := (congrArg State.lx (collectSprites_frame s) :)
@[simp] theorem State.collectSprites_odma (s : State) : s.collectSprites.odma = s.odma := (congrArg State.odma (collectSprites_frame s) :)
@[simp] theorem State.collectSprites_vdma (s : State) : s.collectSprites.vdma = s.vdma := (congrArg State.vdma (collectSprites_frame s) :)
@[simp] theorem State.collectSprites_mem (s : State) : s.collectSprites.mem = s.mem := (congrArg State.mem (collectSprites_frame s) :)
@[simp] theorem State.collectSprites_out (s : State) : s.collectSprites.out = s.out := (congrArg State.out (collectSprites_frame s) :)
@[simp] theorem State.collectSprites_cnt (s : State) : s.collectSprites.cnt = s.cnt := (congrArg State.cnt (collectSprites_frame s) :)
@[simp] theorem State.collectSprites_events (s : State) : s.collectSprites.events = s.events := (congrArg State.events (collectSprites_frame s) :)

theorem deliver_frame (s : State) :
    s.deliver = { s with bg := s.deliver.bg, sp := s.deliver.sp } := rfl
@[simp] theorem State.deliver_cfg (s : State) : s.deliver.cfg = s.cfg := (congrArg State.cfg (deliver_frame s) :)
@[simp] theorem State.deliver_reg (s : State) : s.deliver.reg = s.reg := (congrArg State.reg (deliver_frame s) :)
@[simp] theorem State.deliver_ctl (s : State) : s.deliver.ctl = s.ctl := (congrArg State.ctl (deliver_frame s) :)
@[simp] theorem State.deliver_lx (s : State) : s.deliver.lx = s.lx := (congrArg State.lx (deliver_frame s) :)
@[simp] theorem State.deliver_odma (s : State) : s.deliver.odma = s.odma := (congrArg State.odma (deliver_frame s) :)
@[simp] theorem State.deliver_vdma (s : State) : s.deliver.vdma = s.vdma := (congrArg State.vdma (deliver_frame s) :)
@[simp] theorem State.deliver_mem (s : State) : s.deliver.mem = s.mem := (congrArg State.mem (deliver_frame s) :)
@[simp] theorem State.deliver_out (s : State) : s.deliver.out = s.out := (congrArg State.out (deliver_frame s) :)
@[simp] theorem State.deliver_cnt (s : State) : s.deliver.cnt = s.cnt := (congrArg State.cnt (deliver_frame s) :)
@[simp] theorem State.deliver_events (s : State) : s.deliver.events = s.events := (congrArg State.events (deliver_frame s) :)

theorem deliverIfDue_frame (s : State) :
    s.deliverIfDue = { s with bg := s.deliverIfDue.bg, sp := s.deliverIfDue.sp } := by unfold State.deliverIfDue; split <;> rfl
@[simp] theorem State.deliverIfDue_cfg (s : State) : s.deliverIfDue.cfg = s.cfg := (congrArg State.cfg (deliverIfDue_frame s) :)
@[simp] theorem State.deliverIfDue_reg (s : State) : s.deliverIfDue.reg = s.reg := (congrArg State.reg (deliverIfDue_frame s) :)
@[simp] theorem State.deliverIfDue_ctl (s : State) : s.deliverIfDue.ctl = s.ctl := (congrArg State.ctl (deliverIfDue_frame s) :)
@[simp] theorem State.deliverIfDue_lx (s : State) : s.deliverIfDue.lx = s.lx := (congrArg State.lx (deliverIfDue_frame s) :)
@[simp] theorem State.deliverIfDue_odma (s : State) : s.deliverIfDue.odma = s.odma := (congrArg State.odma (deliverIfDue_frame s) :)
@[simp] theorem State.deliverIfDue_vdma (s : State) : s.deliverIfDue.vdma = s.vdma := (congrArg State.vdma (deliverIfDue_frame s) :)
@[simp] theorem State.deliverIfDue_mem (s : State) : s.deliverIfDue.mem = s.mem := (congrArg State.mem (deliverIfDue_frame s) :)
@[simp] theorem State.deliverIfDue_out (s : State) : s.deliverIfDue.out = s.out := (congrArg State.out (deliverIfDue_frame s) :)
@[simp] theorem State.deliverIfDue_cnt (s : State) : s.deliverIfDue.cnt = s.cnt := (congrArg State.cnt (deliverIfDue_frame s) :)
@[simp] theorem State.deliverIfDue_events (s : State) : s.deliverIfDue.events = s.events := (congrArg State.events (deliverIfDue_frame s) :)

theorem beginFetch_frame (s : State) (i : Nat) :
    s.beginFetch i = { s with bg := (s.beginFetch i).bg, sp := (s.beginFetch i).sp } := rfl
@[simp] theorem State.beginFetch_cfg (s : State) (i : Nat) : (s.beginFetch i).cfg = s.cfg := (congrArg State.cfg (beginFetch_frame s i) :)
@[simp] theorem State.beginFetch_reg (s : State) (i : Nat) : (s.beginFetch i).reg = s.reg := (congrArg State.reg (beginFetch_frame s i) :)
@[simp] theorem State.beginFetch_ctl (s : State) (i : Nat) : (s.beginFetch i).ctl = s.ctl := (congrArg State.ctl (beginFetch_frame s i) :)
@[simp] theorem State.beginFetch_lx (s : State) (i : Nat) : (s.beginFetch i).lx = s.lx := (congrArg State.lx (beginFetch_frame s i) :)
@[simp] theorem State.beginFetch_odma (s : State) (i : Nat) : (s.beginFetch i).odma = s.odma := (congrArg State.odma (beginFetch_frame s i) :)
@[simp] theorem State.beginFetch_vdma (s : State) (i : Nat) : (s.beginFetch i).vdma = s.vdma := (congrArg State.vdma (beginFetch_frame s i) :)
@[simp] theorem State.beginFetch_mem (s : State) (i : Nat) : (s.beginFetch i).mem = s.mem := (congrArg State.mem (beginFetch_frame s i) :)
@[simp] theorem State.beginFetch_out (s : State) (i : Nat) : (s.beginFetch i).out = s.out := (congrArg State.out (beginFetch_frame s i) :)
@[simp] theorem State.beginFetch_cnt (s : State) (i : Nat) : (s.beginFetch i).cnt = s.cnt := (congrArg State.cnt (beginFetch_frame s i) :)
@[simp] theorem State.beginFetch_events (s : State) (i : Nat) : (s.beginFetch i).events = s.events := (congrArg State.events (beginFetch_frame s i) :)

theorem abortFetch_frame (s : State) :
    s.abortFetch = { s with ctl := s.abortFetch.ctl, bg := s.abortFetch.bg, sp := s.abortFetch.sp } := rfl
@[simp] theorem State.abortFetch_cfg (s : State) : s.abortFetch.cfg = s.cfg := (congrArg State.cfg (abortFetch_frame s) :)
@[simp] theorem State.abortFetch_reg (s : State) : s.abortFetch.reg = s.reg := (congrArg State.reg (abortFetch_frame s) :)
@[simp] theorem State.abortFetch_lx (s : State) : s.abortFetch.lx = s.lx := (congrArg State.lx (abortFetch_frame s) :)
@[simp] theorem State.abortFetch_odma (s : State) : s.abortFetch.odma = s.odma := (congrArg State.odma (abortFetch_frame s) :)
@[simp] theorem State.abortFetch_vdma (s : State) : s.abortFetch.vdma = s.vdma := (congrArg State.vdma (abortFetch_frame s) :)
@[simp] theorem State.abortFetch_mem (s : State) : s.abortFetch.mem = s.mem := (congrArg State.mem (abortFetch_frame s) :)
@[simp] theorem State.abortFetch_out (s : State) : s.abortFetch.out = s.out := (congrArg State.out (abortFetch_frame s) :)
@[simp] theorem State.abortFetch_cnt (s : State) : s.abortFetch.cnt = s.cnt := (congrArg State.cnt (abortFetch_frame s) :)
@[simp] theorem State.abortFetch_events (s : State) : s.abortFetch.events = s.events := (congrArg State.events (abortFetch_frame s) :)

theorem stage1Dot_frame (s : State) :
    s.stage1Dot = { s with ctl := s.stage1Dot.ctl, bg := s.stage1Dot.bg, sp := s.stage1Dot.sp } := by
  unfold State.stage1Dot; dsimp only; split <;> split <;> first | rfl | (rw [bgStep_frame]; rfl)
@[simp] theorem State.stage1Dot_cfg (s : State) : s.stage1Dot.cfg = s.cfg := (congrArg State.cfg (stage1Dot_frame s) :)
@[simp] theorem State.stage1Dot_reg (s : State) : s.stage1Dot.reg = s.reg := (congrArg State.reg (stage1Dot_frame s) :)
@[simp] theorem State.stage1Dot_lx (s : State) : s.stage1Dot.lx = s.lx := (congrArg State.lx (stage1Dot_frame s) :)
@[simp] theorem State.stage1Dot_odma (s : State) : s.stage1Dot.odma = s.odma := (congrArg State.odma (stage1Dot_frame s) :)
@[simp] theorem State.stage1Dot_vdma (s : State) : s.stage1Dot.vdma = s.vdma := (congrArg State.vdma (stage1Dot_frame s) :)
@[simp] theorem State.stage1Dot_mem (s : State) : s.stage1Dot.mem = s.mem := (congrArg State.mem (stage1Dot_frame s) :)
@[simp] theorem State.stage1Dot_out (s : State) : s.stage1Dot.out = s.out := (congrArg State.out (stage1Dot_frame s) :)
@[simp] theorem State.stage1Dot_cnt (s : State) : s.stage1Dot.cnt = s.cnt := (congrArg State.cnt (stage1Dot_frame s) :)
@[simp] theorem State.stage1Dot_events (s : State) : s.stage1Dot.events = s.events := (congrArg State.events (stage1Dot_frame s) :)

theorem stage3Dot_frame (s : State) :
    s.stage3Dot = { s with ctl := s.stage3Dot.ctl, sp := s.stage3Dot.sp } := by unfold State.stage3Dot; dsimp only; split <;> rfl
@[simp] theorem State.stage3Dot_cfg (s : State) : s.stage3Dot.cfg = s.cfg := (congrArg State.cfg (stage3Dot_frame s) :)
@[simp] theorem State.stage3Dot_reg (s : State) : s.stage3Dot.reg = s.reg := (congrArg State.reg (stage3Dot_frame s) :)
@[simp] theorem State.stage3Dot_bg (s : State) : s.stage3Dot.bg = s.bg := (congrArg State.bg (stage3Dot_frame s) :)
@[simp] theorem State.stage3Dot_lx (s : State) : s.stage3Dot.lx = s.lx := (congrArg State.lx (stage3Dot_frame s) :)
@[simp] theorem State.stage3Dot_odma (s : State) : s.stage3Dot.odma = s.odma := (congrArg State.odma (stage3Dot_frame s) :)
@[simp] theorem State.stage3Dot_vdma (s : State) : s.stage3Dot.vdma = s.vdma := (congrArg State.vdma (stage3Dot_frame s) :)
@[simp] theorem State.stage3Dot_mem (s : State) : s.stage3Dot.mem = s.mem := (congrArg State.mem (stage3Dot_frame s) :)
@[simp] theorem State.stage3Dot_out (s : State) : s.stage3Dot.out = s.out := (congrArg State.out (stage3Dot_frame s) :)
@[simp] theorem State.stage3Dot_cnt (s : State) : s.stage3Dot.cnt = s.cnt := (congrArg State.cnt (stage3Dot_frame s) :)
@[simp] theorem State.stage3Dot_events (s : State) : s.stage3Dot.events = s.events := (congrArg State.events (stage3Dot_frame s) :)

theorem oneDotStage_frame (s : State) (n : SpriteStage) :
    s.oneDotStage n = { s with ctl := (s.oneDotStage n).ctl, sp := (s.oneDotStage n).sp } := rfl
@[simp] theorem State.oneDotStage_cfg (s : State) (n : SpriteStage) : (s.oneDotStage n).cfg = s.cfg := (congrArg State.cfg (oneDotStage_frame s n) :)
@[simp] theorem State.oneDotStage_reg (s : State) (n : SpriteStage) : (s.oneDotStage n).reg = s.reg := (congrArg State.reg (oneDotStage_frame s n) :)
@[simp] theorem State.oneDotStage_bg (s : State) (n : SpriteStage) : (s.oneDotStage n).bg = s.bg := (congrArg State.bg (oneDotStage_frame s n) :)
@[simp] theorem State.oneDotStage_lx (s : State) (n : SpriteStage) : (s.oneDotStage n).lx = s.lx := (congrArg State.lx (oneDotStage_frame s n) :)
@[simp] theorem State.oneDotStage_odma (s : State) (n : SpriteStage) : (s.oneDotStage n).odma = s.odma := (congrArg State.odma (oneDotStage_frame s n) :)
@[simp] theorem State.oneDotStage_vdma (s : State) (n : SpriteStage) : (s.oneDotStage n).vdma = s.vdma := (congrArg State.vdma (oneDotStage_frame s n) :)
@[simp] theorem State.oneDotStage_mem (s : State) (n : SpriteStage) : (s.oneDotStage n).mem = s.mem := (congrArg State.mem (oneDotStage_frame s n) :)
@[simp] theorem State.oneDotStage_out (s : State) (n : SpriteStage) : (s.oneDotStage n).out = s.out := (congrArg State.out (oneDotStage_frame s n) :)
@[simp] theorem State.oneDotStage_cnt (s : State) (n : SpriteStage) : (s.oneDotStage n).cnt = s.cnt := (congrArg State.cnt (oneDotStage_frame s n) :)
@[simp] theorem State.oneDotStage_events (s : State) (n : SpriteStage) : (s.oneDotStage n).events = s.events := (congrArg State.events (oneDotStage_frame s n) :)

theorem spriteDot_frame (s : State) :
    s.spriteDot = { s with ctl := s.spriteDot.ctl, bg := s.spriteDot.bg, sp := s.spriteDot.sp } := by
  unfold State.spriteDot; split
  · rfl
  split
  · rfl
  split
  · exact stage1Dot_frame s
  · rfl
  · rw [stage3Dot_frame]
  · rfl
  · rfl
  · rfl
  · rfl
@[simp] theorem State.spriteDot_cfg (s : State) : s.spriteDot.cfg = s.cfg := (congrArg State.cfg (spriteDot_frame s) :)
@[simp] theorem State.spriteDot_reg (s : State) : s.spriteDot.reg = s.reg := (congrArg State.reg (spriteDot_frame s) :)
@[simp] theorem State.spriteDot_lx (s : State) : s.spriteDot.lx = s.lx := (congrArg State.lx (spriteDot_frame s) :)
@[simp] theorem State.spriteDot_odma (s : State) : s.spriteDot.odma = s.odma := (congrArg State.odma (spriteDot_frame s) :)
@[simp] theorem State.spriteDot_vdma (s : State) : s.spriteDot.vdma = s.vdma := (congrArg State.vdma (spriteDot_frame s) :)
@[simp] theorem State.spriteDot_mem (s : State) : s.spriteDot.mem = s.mem := (congrArg State.mem (spriteDot_frame s) :)
@[simp] theorem State.spriteDot_out (s : State) : s.spriteDot.out = s.out := (congrArg State.out (spriteDot_frame s) :)
@[simp] theorem State.spriteDot_cnt (s : State) : s.spriteDot.cnt = s.cnt := (congrArg State.cnt (spriteDot_frame s) :)
@[simp] theorem State.spriteDot_events (s : State) : s.spriteDot.events = s.events := (congrArg State.events (spriteDot_frame s) :)

theorem spriteStep_frame (s : State) :
    s.spriteStep.2 = { s with ctl := s.spriteStep.2.ctl, bg := s.spriteStep.2.bg, sp := s.spriteStep.2.sp } := by
  unfold State.spriteStep; dsimp only; split
  · split
    · dsimp only; rw [deliverIfDue_frame]
    · dsimp only; rw [spriteDot_frame, beginFetch_frame, deliverIfDue_frame]
  · dsimp only; rw [spriteDot_frame, deliverIfDue_frame]

@[simp] theorem State.spriteStep_cfg (s : State) : s.spriteStep.2.cfg = s.cfg := (congrArg State.cfg (spriteStep_frame s) :)
@[simp] theorem State.spriteStep_reg (s : State) : s.spriteStep.2.reg = s.reg := (congrArg State.reg (spriteStep_frame s) :)
@[simp] theorem State.spriteStep_lx (s : State) : s.spriteStep.2.lx = s.lx := (congrArg State.lx (spriteStep_frame s) :)
@[simp] theorem State.spriteStep_odma (s : State) : s.spriteStep.2.odma = s.odma := (congrArg State.odma (spriteStep_frame s) :)
@[simp] theorem State.spriteStep_vdma (s : State) : s.spriteStep.2.vdma = s.vdma := (congrArg State.vdma (spriteStep_frame s) :)
@[simp] theorem State.spriteStep_mem (s : State) : s.spriteStep.2.mem = s.mem := (congrArg State.mem (spriteStep_frame s) :)
@[simp] theorem State.spriteStep_out (s : State) : s.spriteStep.2.out = s.out := (congrArg State.out (spriteStep_frame s) :)
@[simp] theorem State.spriteStep_cnt (s : State) : s.spriteStep.2.cnt = s.cnt := (congrArg State.cnt (spriteStep_frame s) :)
@[simp] theorem State.spriteStep_events (s : State) : s.spriteStep.2.events = s.events := (congrArg State.events (spriteStep_frame s) :)

theorem mixPixel_frame (s : State) (b : Pixel) (r : List Pixel) :
    s.mixPixel b r = { s with ctl := (s.mixPixel b r).ctl, bg := (s.mixPixel b r).bg, sp := (s.mixPixel b r).sp, lx := (s.mixPixel b r).lx, mem := (s.mixPixel b r).mem } := rfl
@[simp] theorem State.mixPixel_cfg (s : State) (b : Pixel) (r : List Pixel) : (s.mixPixel b r).cfg = s.cfg := (congrArg State.cfg (mixPixel_frame s b r) :)
@[simp] theorem State.mixPixel_reg (s : State) (b : Pixel) (r : List Pixel) : (s.mixPixel b r).reg = s.reg := (congrArg State.reg (mixPixel_frame s b r) :)
@[simp] theorem State.mixPixel_odma (s : State) (b : Pixel) (r : List Pixel) : (s.mixPixel b r).odma = s.odma := (congrArg State.odma (mixPixel_frame s b r) :)
@[simp] theorem State.mixPixel_vdma (s : State) (b : Pixel) (r : List Pixel) : (s.mixPixel b r).vdma = s.vdma := (congrArg State.vdma (mixPixel_frame s b r) :)
@[simp] theorem State.mixPixel_out (s : State) (b : Pixel) (r : List Pixel) : (s.mixPixel b r).out = s.out := (congrArg State.out (mixPixel_frame s b r) :)
@[simp] theorem State.mixPixel_cnt (s : State) (b : Pixel) (r : List Pixel) : (s.mixPixel b r).cnt = s.cnt := (congrArg State.cnt (mixPixel_frame s b r) :)
@[simp] theorem State.mixPixel_events (s : State) (b : Pixel) (r : List Pixel) : (s.mixPixel b r).events = s.events := (congrArg State.events (mixPixel_frame s b r) :)

theorem mixStep_frame (s : State) :
    s.mixStep = { s with ctl := s.mixStep.ctl, bg := s.mixStep.bg, sp := s.mixStep.sp, lx := s.mixStep.lx, mem := s.mixStep.mem } := by unfold State.mixStep; split; rfl; split <;> rfl
@[simp] theorem State.mixStep_cfg (s : State) : s.mixStep.cfg = s.cfg := (congrArg State.cfg (mixStep_frame s) :)
@[simp] theorem State.mixStep_reg (s : State) : s.mixStep.reg = s.reg := (congrArg State.reg (mixStep_frame s) :)
@[simp] theorem State.mixStep_odma (s : State) : s.mixStep.odma = s.odma := (congrArg State.odma (mixStep_frame s) :)
@[simp] theorem State.mixStep_vdma (s : State) : s.mixStep.vdma = s.vdma := (congrArg State.vdma (mixStep_frame s) :)
@[simp] theorem State.mixStep_out (s : State) : s.mixStep.out = s.out := (congrArg State.out (mixStep_frame s) :)
@[simp] theorem State.mixStep_cnt (s : State) : s.mixStep.cnt = s.cnt := (congrArg State.cnt (mixStep_frame s) :)
@[simp] theorem State.mixStep_events (s : State) : s.mixStep.events = s.events := (congrArg State.events (mixStep_frame s) :)

theorem oamDmaStart_frame (s : State) (v : Byte) :
    s.oamDmaStart v = { s with reg := (s.oamDmaStart v).reg, odma := (s.oamDmaStart v).odma } := rfl
@[simp] theorem State.oamDmaStart_cfg (s : State) (v : Byte) : (s.oamDmaStart v).cfg = s.cfg := (congrArg State.cfg (oamDmaStart_frame s v) :)
@[simp] theorem State.oamDmaStart_ctl (s : State) (v : Byte) : (s.oamDmaStart v).ctl = s.ctl := (congrArg State.ctl (oamDmaStart_frame s v) :)
@[simp] theorem State.oamDmaStart_bg (s : State) (v : Byte) : (s.oamDmaStart v).bg = s.bg := (congrArg State.bg (oamDmaStart_frame s v) :)
@[simp] theorem State.oamDmaStart_sp (s : State) (v : Byte) : (s.oamDmaStart v).sp = s.sp := (congrArg State.sp (oamDmaStart_frame s v) :)
@[simp] theorem State.oamDmaStart_lx (s : State) (v : Byte) : (s.oamDmaStart v).lx = s.lx := (congrArg State.lx (oamDmaStart_frame s v) :)
@[simp] theorem State.oamDmaStart_vdma (s : State) (v : Byte) : (s.oamDmaStart v).vdma = s.vdma := (congrArg State.vdma (oamDmaStart_frame s v) :)
@[simp] theorem State.oamDmaStart_mem (s : State) (v : Byte) : (s.oamDmaStart v).mem = s.mem := (congrArg State.mem (oamDmaStart_frame s v) :)
@[simp] theorem State.oamDmaStart_out (s : State) (v : Byte) : (s.oamDmaStart v).out = s.out := (congrArg State.out (oamDmaStart_frame s v) :)
@[simp] theorem State.oamDmaStart_cnt (s : State) (v : Byte) : (s.oamDmaStart v).cnt = s.cnt := (congrArg State.cnt (oamDmaStart_frame s v) :)
@[simp] theorem State.oamDmaStart_events (s : State) (v : Byte) : (s.oamDmaStart v).events = s.events := (congrArg State.events (oamDmaStart_frame s v) :)

theorem oamDmaByte_frame (s : State) (k : Nat) :
    s.oamDmaByte k = { s with mem := (s.oamDmaByte k).mem } := rfl
@[simp] theorem State.oamDmaByte_cfg (s : State) (k : Nat) : (s.oamDmaByte k).cfg = s.cfg := (congrArg State.cfg (oamDmaByte_frame s k) :)
@[simp] theorem State.oamDmaByte_reg (s : State) (k : Nat) : (s.oamDmaByte k).reg = s.reg := (congrArg State.reg (oamDmaByte_frame s k) :)
@[simp] theorem State.oamDmaByte_ctl (s : State) (k : Nat) : (s.oamDmaByte k).ctl = s.ctl := (congrArg State.ctl (oamDmaByte_frame s k) :)
@[simp] theorem State.oamDmaByte_bg (s : State) (k : Nat) : (s.oamDmaByte k).bg = s.bg := (congrArg State.bg (oamDmaByte_frame s k) :)
@[simp] theorem State.oamDmaByte_sp (s : State) (k : Nat) : (s.oamDmaByte k).sp = s.sp := (congrArg State.sp (oamDmaByte_frame s k) :)
@[simp] theorem State.oamDmaByte_lx (s : State) (k : Nat) : (s.oamDmaByte k).lx = s.lx := (congrArg State.lx (oamDmaByte_frame s k) :)
@[simp] theorem State.oamDmaByte_odma (s : State) (k : Nat) : (s.oamDmaByte k).odma = s.odma := (congrArg State.odma (oamDmaByte_frame s k) :)
@[simp] theorem State.oamDmaByte_vdma (s : State) (k : Nat) : (s.oamDmaByte k).vdma = s.vdma := (congrArg State.vdma (oamDmaByte_frame s k) :)
@[simp] theorem State.oamDmaByte_out (s : State) (k : Nat) : (s.oamDmaByte k).out = s.out := (congrArg State.out (oamDmaByte_frame s k) :)
@[simp] theorem State.oamDmaByte_cnt (s : State) (k : Nat) : (s.oamDmaByte k).cnt = s.cnt := (congrArg State.cnt (oamDmaByte_frame s k) :)
@[simp] theorem State.oamDmaByte_events (s : State) (k : Nat) : (s.oamDmaByte k).events = s.events := (congrArg State.events (oamDmaByte_frame s k) :)

theorem oamDmaCopy_frame (s : State) :
    s.oamDmaCopy = { s with mem := s.oamDmaCopy.mem } := by
  have h : ∀ (l : List Nat) (s : State), l.foldl State.oamDmaByte s = { s with mem := (l.foldl State.oamDmaByte s).mem } := by
    intro l; induction l with
    | nil => intro s; rfl
    | cons k l ih => intro s; rw [List.foldl_cons, ih]; rfl
  unfold State.oamDmaCopy; exact h _ s
@[simp] theorem State.oamDmaCopy_cfg (s : State) : s.oamDmaCopy.cfg = s.cfg := (congrArg State.cfg (oamDmaCopy_frame s) :)
@[simp] theorem State.oamDmaCopy_reg (s : State) : s.oamDmaCopy.reg = s.reg := (congrArg State.reg (oamDmaCopy_frame s) :)
@[simp] theorem State.oamDmaCopy_ctl (s : State) : s.oamDmaCopy.ctl = s.ctl := (congrArg State.ctl (oamDmaCopy_frame s) :)
@[simp] theorem State.oamDmaCopy_bg (s : State) : s.oamDmaCopy.bg = s.bg := (congrArg State.bg (oamDmaCopy_frame s) :)
@[simp] theorem State.oamDmaCopy_sp (s : State) : s.oamDmaCopy.sp = s.sp := (congrArg State.sp (oamDmaCopy_frame s) :)
@[simp] theorem State.oamDmaCopy_lx (s : State) : s.oamDmaCopy.lx = s.lx := (congrArg State.lx (oamDmaCopy_frame s) :)
@[simp] theorem State.oamDmaCopy_odma (s : State) : s.oamDmaCopy.odma = s.odma := (congrArg State.odma (oamDmaCopy_frame s) :)
@[simp] theorem State.oamDmaCopy_vdma (s : State) : s.oamDmaCopy.vdma = s.vdma := (congrArg State.vdma (oamDmaCopy_frame s) :)
@[simp] theorem State.oamDmaCopy_out (s : State) : s.oamDmaCopy.out = s.out := (congrArg State.out (oamDmaCopy_frame s) :)
@[simp] theorem State.oamDmaCopy_cnt (s : State) : s.oamDmaCopy.cnt = s.cnt := (congrArg State.cnt (oamDmaCopy_frame s) :)
@[simp] theorem State.oamDmaCopy_events (s : State) : s.oamDmaCopy.events = s.events := (congrArg State.events (oamDmaCopy_frame s) :)

theorem oamDmaTick_frame (s : State) :
    s.oamDmaTick = { s with odma := s.oamDmaTick.odma, mem := s.oamDmaTick.mem } := by unfold State.oamDmaTick; split; (dsimp only; split; (rw [oamDmaCopy_frame]); rfl); rfl
@[simp] theorem State.oamDmaTick_cfg (s : State) : s.oamDmaTick.cfg = s.cfg := (congrArg State.cfg (oamDmaTick_frame s) :)
@[simp] theorem State.oamDmaTick_reg (s : State) : s.oamDmaTick.reg = s.reg := (congrArg State.reg (oamDmaTick_frame s) :)
@[simp] theorem State.oamDmaTick_ctl (s : State) : s.oamDmaTick.ctl = s.ctl := (congrArg State.ctl (oamDmaTick_frame s) :)
@[simp] theorem State.oamDmaTick_bg (s : State) : s.oamDmaTick.bg = s.bg := (congrArg State.bg (oamDmaTick_frame s) :)
@[simp] theorem State.oamDmaTick_sp (s : State) : s.oamDmaTick.sp = s.sp := (congrArg State.sp (oamDmaTick_frame s) :)
@[simp] theorem State.oamDmaTick_lx (s : State) : s.oamDmaTick.lx = s.lx := (congrArg State.lx (oamDmaTick_frame s) :)
@[simp] theorem State.oamDmaTick_vdma (s : State) : s.oamDmaTick.vdma = s.vdma := (congrArg State.vdma (oamDmaTick_frame s) :)
@[simp] theorem State.oamDmaTick_out (s : State) : s.oamDmaTick.out = s.out := (congrArg State.out (oamDmaTick_frame s) :)
@[simp] theorem State.oamDmaTick_cnt (s : State) : s.oamDmaTick.cnt = s.cnt := (congrArg State.cnt (oamDmaTick_frame s) :)
@[simp] theorem State.oamDmaTick_events (s : State) : s.oamDmaTick.events = s.events := (congrArg State.events (oamDmaTick_frame s) :)

theorem vdmaByte_frame (s : State) (k : Nat) :
    s.vdmaByte k = { s with mem := (s.vdmaByte k).mem } := rfl
@[simp] theorem State.vdmaByte_cfg (s : State) (k : Nat) : (s.vdmaByte k).cfg = s.cfg := (congrArg State.cfg (vdmaByte_frame s k) :)
@[simp] theorem State.vdmaByte_reg (s : State) (k : Nat) : (s.vdmaByte k).reg = s.reg := (congrArg State.reg (vdmaByte_frame s k) :)
@[simp] theorem State.vdmaByte_ctl (s : State) (k : Nat) : (s.vdmaByte k).ctl = s.ctl := (congrArg State.ctl (vdmaByte_frame s k) :)
@[simp] theorem State.vdmaByte_bg (s : State) (k : Nat) : (s.vdmaByte k).bg = s.bg := (congrArg State.bg (vdmaByte_frame s k) :)
@[simp] theorem State.vdmaByte_sp (s : State) (k : Nat) : (s.vdmaByte k).sp = s.sp := (congrArg State.sp (vdmaByte_frame s k) :)
@[simp] theorem State.vdmaByte_lx (s : State) (k : Nat) : (s.vdmaByte k).lx = s.lx := (congrArg State.lx (vdmaByte_frame s k) :)
@[simp] theorem State.vdmaByte_odma (s : State) (k : Nat) : (s.vdmaByte k).odma = s.odma := (congrArg State.odma (vdmaByte_frame s k) :)
@[simp] theorem State.vdmaByte_vdma (s : State) (k : Nat) : (s.vdmaByte k).vdma = s.vdma := (congrArg State.vdma (vdmaByte_frame s k) :)
@[simp] theorem State.vdmaByte_out (s : State) (k : Nat) : (s.vdmaByte k).out = s.out := (congrArg State.out (vdmaByte_frame s k) :)
@[simp] theorem State.vdmaByte_cnt (s : State) (k : Nat) : (s.vdmaByte k).cnt = s.cnt := (congrArg State.cnt (vdmaByte_frame s k) :)
@[simp] theorem State.vdmaByte_events (s : State) (k : Nat) : (s.vdmaByte k).events = s.events := (congrArg State.events (vdmaByte_frame s k) :)

theorem blockBytes_frame (s : State) :
    s.blockBytes = { s with mem := s.blockBytes.mem } := by
  have h : ∀ (l : List Nat) (s : State), l.foldl State.vdmaByte s = { s with mem := (l.foldl State.vdmaByte s).mem } := by
    intro l; induction l with
    | nil => intro s; rfl
    | cons k l ih => intro s; rw [List.foldl_cons, ih]; rfl
  unfold State.blockBytes; exact h _ s
@[simp] theorem State.blockBytes_cfg (s : State) : s.blockBytes.cfg = s.cfg := (congrArg State.cfg (blockBytes_frame s) :)
@[simp] theorem State.blockBytes_reg (s : State) : s.blockBytes.reg = s.reg := (congrArg State.reg (blockBytes_frame s) :)
@[simp] theorem State.blockBytes_ctl (s : State) : s.blockBytes.ctl = s.ctl := (congrArg State.ctl (blockBytes_frame s) :)
@[simp] theorem State.blockBytes_bg (s : State) : s.blockBytes.bg = s.bg := (congrArg State.bg (blockBytes_frame s) :)
@[simp] theorem State.blockBytes_sp (s : State) : s.blockBytes.sp = s.sp := (congrArg State.sp (blockBytes_frame s) :)
@[simp] theorem State.blockBytes_lx (s : State) : s.blockBytes.lx = s.lx := (congrArg State.lx (blockBytes_frame s) :)
@[simp] theorem State.blockBytes_odma (s : State) : s.blockBytes.odma = s.odma := (congrArg State.odma (blockBytes_frame s) :)
@[simp] theorem State.blockBytes_vdma (s : State) : s.blockBytes.vdma = s.vdma := (congrArg State.vdma (blockBytes_frame s) :)
@[simp] theorem State.blockBytes_out (s : State) : s.blockBytes.out = s.out := (congrArg State.out (blockBytes_frame s) :)
@[simp] theorem State.blockBytes_cnt (s : State) : s.blockBytes.cnt = s.cnt := (congrArg State.cnt (blockBytes_frame s) :)
@[simp] theorem State.blockBytes_events (s : State) : s.blockBytes.events = s.events := (congrArg State.events (blockBytes_frame s) :)

theorem copyBlock_frame (s : State) :
    s.copyBlock = { s with vdma := s.copyBlock.vdma, mem := s.copyBlock.mem } := by unfold State.copyBlock; rw [blockBytes_frame]
@[simp] theorem State.copyBlock_cfg (s : State) : s.copyBlock.cfg = s.cfg := (congrArg State.cfg (copyBlock_frame s) :)
@[simp] theorem State.copyBlock_reg (s : State) : s.copyBlock.reg = s.reg := (congrArg State.reg (copyBlock_frame s) :)
@[simp] theorem State.copyBlock_ctl (s : State) : s.copyBlock.ctl = s.ctl := (congrArg State.ctl (copyBlock_frame s) :)
@[simp] theorem State.copyBlock_bg (s : State) : s.copyBlock.bg = s.bg := (congrArg State.bg (copyBlock_frame s) :)
@[simp] theorem State.copyBlock_sp (s : State) : s.copyBlock.sp = s.sp := (congrArg State.sp (copyBlock_frame s) :)
@[simp] theorem State.copyBlock_lx (s : State) : s.copyBlock.lx = s.lx := (congrArg State.lx (copyBlock_frame s) :)
@[simp] theorem State.copyBlock_odma (s : State) : s.copyBlock.odma = s.odma := (congrArg State.odma (copyBlock_frame s) :)
@[simp] theorem State.copyBlock_out (s : State) : s.copyBlock.out = s.out := (congrArg State.out (copyBlock_frame s) :)
@[simp] theorem State.copyBlock_cnt (s : State) : s.copyBlock.cnt = s.cnt := (congrArg State.cnt (copyBlock_frame s) :)
@[simp] theorem State.copyBlock_events (s : State) : s.copyBlock.events = s.events := (congrArg State.events (copyBlock_frame s) :)

theorem copyBlocks_frame (s : State) (n : Nat) :
    s.copyBlocks n = { s with vdma := (s.copyBlocks n).vdma, mem := (s.copyBlocks n).mem } := by
  unfold State.copyBlocks
  induction n generalizing s with
  | zero => rfl
  | succ n ih =>
    have h1 := ih s.copyBlock
    have h2 := copyBlock_frame s
    rw [Function.iterate_succ_apply]
    generalize State.copyBlock^[n] s.copyBlock = u at *
    generalize s.copyBlock = t at *
    exact h1.trans (by rw [h2])
@[simp] theorem State.copyBlocks_cfg (s : State) (n : Nat) : (s.copyBlocks n).cfg = s.cfg := (congrArg State.cfg (copyBlocks_frame s n) :)
@[simp] theorem State.copyBlocks_reg (s : State) (n : Nat) : (s.copyBlocks n).reg = s.reg := (congrArg State.reg (copyBlocks_frame s n) :)
@[simp] theorem State.copyBlocks_ctl (s : State) (n : Nat) : (s.copyBlocks n).ctl = s.ctl := (congrArg State.ctl (copyBlocks_frame s n) :)
@[simp] theorem State.copyBlocks_bg (s : State) (n : Nat) : (s.copyBlocks n).bg = s.bg := (congrArg State.bg (copyBlocks_frame s n) :)
@[simp] theorem State.copyBlocks_sp (s : State) (n : Nat) : (s.copyBlocks n).sp = s.sp := (congrArg State.sp (copyBlocks_frame s n) :)
@[simp] theorem State.copyBlocks_lx (s : State) (n : Nat) : (s.copyBlocks n).lx = s.lx := (congrArg State.lx (copyBlocks_frame s n) :)
@[simp] theorem State.copyBlocks_odma (s : State) (n : Nat) : (s.copyBlocks n).odma = s.odma := (congrArg State.odma (copyBlocks_frame s n) :)
@[simp] theorem State.copyBlocks_out (s : State) (n : Nat) : (s.copyBlocks n).out = s.out := (congrArg State.out (copyBlocks_frame s n) :)
@[simp] theorem State.copyBlocks_cnt (s : State) (n : Nat) : (s.copyBlocks n).cnt = s.cnt := (congrArg State.cnt (copyBlocks_frame s n) :)
@[simp] theorem State.copyBlocks_events (s : State) (n : Nat) : (s.copyBlocks n).events = s.events := (congrArg State.events (copyBlocks_frame s n) :)

theorem generalCopy_frame (s : State) :
    s.generalCopy = { s with vdma := s.generalCopy.vdma, mem := s.generalCopy.mem } := copyBlocks_frame s _
@[simp] theorem State.generalCopy_cfg (s : State) : s.generalCopy.cfg = s.cfg := (congrArg State.cfg (generalCopy_frame s) :)
@[simp] theorem State.generalCopy_reg (s : State) : s.generalCopy.reg = s.reg := (congrArg State.reg (generalCopy_frame s) :)
@[simp] theorem State.generalCopy_ctl (s : State) : s.generalCopy.ctl = s.ctl := (congrArg State.ctl (generalCopy_frame s) :)
@[simp] theorem State.generalCopy_bg (s : State) : s.generalCopy.bg = s.bg := (congrArg State.bg (generalCopy_frame s) :)
@[simp] theorem State.generalCopy_sp (s : State) : s.generalCopy.sp = s.sp := (congrArg State.sp (generalCopy_frame s) :)
@[simp] theorem State.generalCopy_lx (s : State) : s.generalCopy.lx = s.lx := (congrArg State.lx (generalCopy_frame s) :)
@[simp] theorem State.generalCopy_odma (s : State) : s.generalCopy.odma = s.odma := (congrArg State.odma (generalCopy_frame s) :)
@[simp] theorem State.generalCopy_out (s : State) : s.generalCopy.out = s.out := (congrArg State.out (generalCopy_frame s) :)
@[simp] theorem State.generalCopy_cnt (s : State) : s.generalCopy.cnt = s.cnt := (congrArg State.cnt (generalCopy_frame s) :)
@[simp] theorem State.generalCopy_events (s : State) : s.generalCopy.events = s.events := (congrArg State.events (generalCopy_frame s) :)

theorem startGeneral_frame (s : State) (v : Byte) :
    s.startGeneral v = { s with vdma := (s.startGeneral v).vdma, mem := (s.startGeneral v).mem } := by unfold State.startGeneral; dsimp only; rw [generalCopy_frame]; rfl
@[simp] theorem State.startGeneral_cfg (s : State) (v : Byte) : (s.startGeneral v).cfg = s.cfg := (congrArg State.cfg (startGeneral_frame s v) :)
@[simp] theorem State.startGeneral_reg (s : State) (v : Byte) : (s.startGeneral v).reg = s.reg := (congrArg State.reg (startGeneral_frame s v) :)
@[simp] theorem State.startGeneral_ctl (s : State) (v : Byte) : (s.startGeneral v).ctl = s.ctl := (congrArg State.ctl (startGeneral_frame s v) :)
@[simp] theorem State.startGeneral_bg (s : State) (v : Byte) : (s.startGeneral v).bg = s.bg := (congrArg State.bg (startGeneral_frame s v) :)
@[simp] theorem State.startGeneral_sp (s : State) (v : Byte) : (s.startGeneral v).sp = s.sp := (congrArg State.sp (startGeneral_frame s v) :)
@[simp] theorem State.startGeneral_lx (s : State) (v : Byte) : (s.startGeneral v).lx = s.lx := (congrArg State.lx (startGeneral_frame s v) :)
@[simp] theorem State.startGeneral_odma (s : State) (v : Byte) : (s.startGeneral v).odma = s.odma := (congrArg State.odma (startGeneral_frame s v) :)
@[simp] theorem State.startGeneral_out (s : State) (v : Byte) : (s.startGeneral v).out = s.out := (congrArg State.out (startGeneral_frame s v) :)
@[simp] theorem State.startGeneral_cnt (s : State) (v : Byte) : (s.startGeneral v).cnt = s.cnt := (congrArg State.cnt (startGeneral_frame s v) :)
@[simp] theorem State.startGeneral_events (s : State) (v : Byte) : (s.startGeneral v).events = s.events := (congrArg State.events (startGeneral_frame s v) :)

theorem startHblank_frame (s : State) (v : Byte) :
    s.startHblank v = { s with vdma := (s.startHblank v).vdma } := rfl
@[simp] theorem State.startHblank_cfg (s : State) (v : Byte) : (s.startHblank v).cfg = s.cfg := (congrArg State.cfg (startHblank_frame s v) :)
@[simp] theorem State.startHblank_reg (s : State) (v : Byte) : (s.startHblank v).reg = s.reg := (congrArg State.reg (startHblank_frame s v) :)
@[simp] theorem State.startHblank_ctl (s : State) (v : Byte) : (s.startHblank v).ctl = s.ctl := (congrArg State.ctl (startHblank_frame s v) :)
@[simp] theorem State.startHblank_bg (s : State) (v : Byte) : (s.startHblank v).bg = s.bg := (congrArg State.bg (startHblank_frame s v) :)
@[simp] theorem State.startHblank_sp (s : State) (v : Byte) : (s.startHblank v).sp = s.sp := (congrArg State.sp (startHblank_frame s v) :)
@[simp] theorem State.startHblank_lx (s : State) (v : Byte) : (s.startHblank v).lx = s.lx := (congrArg State.lx (startHblank_frame s v) :)
@[simp] theorem State.startHblank_odma (s : State) (v : Byte) : (s.startHblank v).odma = s.odma := (congrArg State.odma (startHblank_frame s v) :)
@[simp] theorem State.startHblank_mem (s : State) (v : Byte) : (s.startHblank v).mem = s.mem := (congrArg State.mem (startHblank_frame s v) :)
@[simp] theorem State.startHblank_out (s : State) (v : Byte) : (s.startHblank v).out = s.out := (congrArg State.out (startHblank_frame s v) :)
@[simp] theorem State.startHblank_cnt (s : State) (v : Byte) : (s.startHblank v).cnt = s.cnt := (congrArg State.cnt (startHblank_frame s v) :)
@[simp] theorem State.startHblank_events (s : State) (v : Byte) : (s.startHblank v).events = s.events := (congrArg State.events (startHblank_frame s v) :)

theorem vdmaWrite_frame (s : State) (v : Byte) :
    s.vdmaWrite v = { s with vdma := (s.vdmaWrite v).vdma, mem := (s.vdmaWrite v).mem } := by unfold State.vdmaWrite; split; rfl; (split <;> rfl); split; exacts [rfl, startGeneral_frame s v]
@[simp] theorem State.vdmaWrite_cfg (s : State) (v : Byte) : (s.vdmaWrite v).cfg = s.cfg := (congrArg State.cfg (vdmaWrite_frame s v) :)
@[simp] theorem State.vdmaWrite_reg (s : State) (v : Byte) : (s.vdmaWrite v).reg = s.reg := (congrArg State.reg (vdmaWrite_frame s v) :)
@[simp] theorem State.vdmaWrite_ctl (s : State) (v : Byte) : (s.vdmaWrite v).ctl = s.ctl := (congrArg State.ctl (vdmaWrite_frame s v) :)
@[simp] theorem State.vdmaWrite_bg (s : State) (v : Byte) : (s.vdmaWrite v).bg = s.bg := (congrArg State.bg (vdmaWrite_frame s v) :)
@[simp] theorem State.vdmaWrite_sp (s : State) (v : Byte) : (s.vdmaWrite v).sp = s.sp := (congrArg State.sp (vdmaWrite_frame s v) :)
@[simp] theorem State.vdmaWrite_lx (s : State) (v : Byte) : (s.vdmaWrite v).lx = s.lx := (congrArg State.lx (vdmaWrite_frame s v) :)
@[simp] theorem State.vdmaWrite_odma (s : State) (v : Byte) : (s.vdmaWrite v).odma = s.odma := (congrArg State.odma (vdmaWrite_frame s v) :)
@[simp] theorem State.vdmaWrite_out (s : State) (v : Byte) : (s.vdmaWrite v).out = s.out := (congrArg State.out (vdmaWrite_frame s v) :)
@[simp] theorem State.vdmaWrite_cnt (s : State) (v : Byte) : (s.vdmaWrite v).cnt = s.cnt := (congrArg State.cnt (vdmaWrite_frame s v) :)
@[simp] theorem State.vdmaWrite_events (s : State) (v : Byte) : (s.vdmaWrite v).events = s.events := (congrArg State.events (vdmaWrite_frame s v) :)

theorem vdmaTick_frame (s : State) :
    s.vdmaTick = { s with vdma := s.vdmaTick.vdma } := by unfold State.vdmaTick; split; (dsimp only; generalize (if s.cfg.doubleSpeed then 1 else 2) = k; split <;> rfl); rfl
@[simp] theorem State.vdmaTick_cfg (s : State) : s.vdmaTick.cfg = s.cfg := (congrArg State.cfg (vdmaTick_frame s) :)
@[simp] theorem State.vdmaTick_reg (s : State) : s.vdmaTick.reg = s.reg := (congrArg State.reg (vdmaTick_frame s) :)
@[simp] theorem State.vdmaTick_ctl (s : State) : s.vdmaTick.ctl = s.ctl := (congrArg State.ctl (vdmaTick_frame s) :)
@[simp] theorem State.vdmaTick_bg (s : State) : s.vdmaTick.bg = s.bg := (congrArg State.bg (vdmaTick_frame s) :)
@[simp] theorem State.vdmaTick_sp (s : State) : s.vdmaTick.sp = s.sp := (congrArg State.sp (vdmaTick_frame s) :)
@[simp] theorem State.vdmaTick_lx (s : State) : s.vdmaTick.lx = s.lx := (congrArg State.lx (vdmaTick_frame s) :)
@[simp] theorem State.vdmaTick_odma (s : State) : s.vdmaTick.odma = s.odma := (congrArg State.odma (vdmaTick_frame s) :)
@[simp] theorem State.vdmaTick_mem (s : State) : s.vdmaTick.mem = s.mem := (congrArg State.mem (vdmaTick_frame s) :)
@[simp] theorem State.vdmaTick_out (s : State) : s.vdmaTick.out = s.out := (congrArg State.out (vdmaTick_frame s) :)
@[simp] theorem State.vdmaTick_cnt (s : State) : s.vdmaTick.cnt = s.cnt := (congrArg State.cnt (vdmaTick_frame s) :)
@[simp] theorem State.vdmaTick_events (s : State) : s.vdmaTick.events = s.events := (congrArg State.events (vdmaTick_frame s) :)

theorem hblankCopy_frame (s : State) :
    s.hblankCopy = { s with ctl := s.hblankCopy.ctl, vdma := s.hblankCopy.vdma, mem := s.hblankCopy.mem } := by unfold State.hblankCopy; dsimp only; split <;> (rw [copyBlock_frame]; try rfl)
@[simp] theorem State.hblankCopy_cfg (s : State) : s.hblankCopy.cfg = s.cfg := (congrArg State.cfg (hblankCopy_frame s) :)
@[simp] theorem State.hblankCopy_reg (s : State) : s.hblankCopy.reg = s.reg := (congrArg State.reg (hblankCopy_frame s) :)
@[simp] theorem State.hblankCopy_bg (s : State) : s.hblankCopy.bg = s.bg := (congrArg State.bg (hblankCopy_frame s) :)
@[simp] theorem State.hblankCopy_sp (s : State) : s.hblankCopy.sp = s.sp := (congrArg State.sp (hblankCopy_frame s) :)
@[simp] theorem State.hblankCopy_lx (s : State) : s.hblankCopy.lx = s.lx := (congrArg State.lx (hblankCopy_frame s) :)
@[simp] theorem State.hblankCopy_odma (s : State) : s.hblankCopy.odma = s.odma := (congrArg State.odma (hblankCopy_frame s) :)
@[simp] theorem State.hblankCopy_out (s : State) : s.hblankCopy.out = s.out := (congrArg State.out (hblankCopy_frame s) :)
@[simp] theorem State.hblankCopy_cnt (s : State) : s.hblankCopy.cnt = s.cnt := (congrArg State.cnt (hblankCopy_frame s) :)
@[simp] theorem State.hblankCopy_events (s : State) : s.hblankCopy.events = s.events := (congrArg State.events (hblankCopy_frame s) :)

theorem vdmaHblankCopy_frame (s : State) :
    s.vdmaHblankCopy = { s with ctl := s.vdmaHblankCopy.ctl, vdma := s.vdmaHblankCopy.vdma, mem := s.vdmaHblankCopy.mem } := by unfold State.vdmaHblankCopy; split; exacts [hblankCopy_frame s, rfl]
@[simp] theorem State.vdmaHblankCopy_cfg (s : State) : s.vdmaHblankCopy.cfg = s.cfg := (congrArg State.cfg (vdmaHblankCopy_frame s) :)
@[simp] theorem State.vdmaHblankCopy_reg (s : State) : s.vdmaHblankCopy.reg = s.reg := (congrArg State.reg (vdmaHblankCopy_frame s) :)
@[simp] theorem State.vdmaHblankCopy_bg (s : State) : s.vdmaHblankCopy.bg = s.bg := (congrArg State.bg (vdmaHblankCopy_frame s) :)
@[simp] theorem State.vdmaHblankCopy_sp (s : State) : s.vdmaHblankCopy.sp = s.sp := (congrArg State.sp (vdmaHblankCopy_frame s) :)
@[simp] theorem State.vdmaHblankCopy_lx (s : State) : s.vdmaHblankCopy.lx = s.lx := (congrArg State.lx (vdmaHblankCopy_frame s) :)
@[simp] theorem State.vdmaHblankCopy_odma (s : State) : s.vdmaHblankCopy.odma = s.odma := (congrArg State.odma (vdmaHblankCopy_frame s) :)
@[simp] theorem State.vdmaHblankCopy_out (s : State) : s.vdmaHblankCopy.out = s.out := (congrArg State.out (vdmaHblankCopy_frame s) :)
@[simp] theorem State.vdmaHblankCopy_cnt (s : State) : s.vdmaHblankCopy.cnt = s.cnt := (congrArg State.cnt (vdmaHblankCopy_frame s) :)
@[simp] theorem State.vdmaHblankCopy_events (s : State) : s.vdmaHblankCopy.events = s.events := (congrArg State.events (vdmaHblankCopy_frame s) :)

theorem enterOamSearch_frame (s : State) :
    s.enterOamSearch = { s with ctl := s.enterOamSearch.ctl, out := s.enterOamSearch.out } := by unfold State.enterOamSearch; dsimp only; rw [raiseIf_frame, raiseIf_frame]
@[simp] theorem State.enterOamSearch_cfg (s : State) : s.enterOamSearch.cfg = s.cfg := (congrArg State.cfg (enterOamSearch_frame s) :)
@[simp] theorem State.enterOamSearch_reg (s : State) : s.enterOamSearch.reg = s.reg := (congrArg State.reg (enterOamSearch_frame s) :)
@[simp] theorem State.enterOamSearch_bg (s : State) : s.enterOamSearch.bg = s.bg := (congrArg State.bg (enterOamSearch_frame s) :)
@[simp] theorem State.enterOamSearch_sp (s : State) : s.enterOamSearch.sp = s.sp := (congrArg State.sp (enterOamSearch_frame s) :)
@[simp] theorem State.enterOamSearch_lx (s : State) : s.enterOamSearch.lx = s.lx := (congrArg State.lx (enterOamSearch_frame s) :)
@[simp] theorem State.enterOamSearch_odma (s : State) : s.enterOamSearch.odma = s.odma := (congrArg State.odma (enterOamSearch_frame s) :)
@[simp] theorem State.enterOamSearch_vdma (s : State) : s.enterOamSearch.vdma = s.vdma := (congrArg State.vdma (enterOamSearch_frame s) :)
@[simp] theorem State.enterOamSearch_mem (s : State) : s.enterOamSearch.mem = s.mem := (congrArg State.mem (enterOamSearch_frame s) :)
@[simp] theorem State.enterOamSearch_cnt (s : State) : s.enterOamSearch.cnt = s.cnt := (congrArg State.cnt (enterOamSearch_frame s) :)
@[simp] theorem State.enterOamSearch_events (s : State) : s.enterOamSearch.events = s.events := (congrArg State.events (enterOamSearch_frame s) :)

theorem enterDraw_frame (s : State) :
    s.enterDraw = { s with ctl := s.enterDraw.ctl, bg := s.enterDraw.bg, sp := s.enterDraw.sp, lx := s.enterDraw.lx } := rfl
@[simp] theorem State.enterDraw_cfg (s : State) : s.enterDraw.cfg = s.cfg := (congrArg State.cfg (enterDraw_frame s) :)
@[simp] theorem State.enterDraw_reg (s : State) : s.enterDraw.reg = s.reg := (congrArg State.reg (enterDraw_frame s) :)
@[simp] theorem State.enterDraw_odma (s : State) : s.enterDraw.odma = s.odma := (congrArg State.odma (enterDraw_frame s) :)
@[simp] theorem State.enterDraw_vdma (s : State) : s.enterDraw.vdma = s.vdma := (congrArg State.vdma (enterDraw_frame s) :)
@[simp] theorem State.enterDraw_mem (s : State) : s.enterDraw.mem = s.mem := (congrArg State.mem (enterDraw_frame s) :)
@[simp] theorem State.enterDraw_out (s : State) : s.enterDraw.out = s.out := (congrArg State.out (enterDraw_frame s) :)
@[simp] theorem State.enterDraw_cnt (s : State) : s.enterDraw.cnt = s.cnt := (congrArg State.cnt (enterDraw_frame s) :)
@[simp] theorem State.enterDraw_events (s : State) : s.enterDraw.events = s.events := (congrArg State.events (enterDraw_frame s) :)

theorem oamSearchDot_frame (s : State) :
    s.oamSearchDot = { s with ctl := s.oamSearchDot.ctl, bg := s.oamSearchDot.bg, sp := s.oamSearchDot.sp, lx := s.oamSearchDot.lx } := by unfold State.oamSearchDot; split <;> rfl
@[simp] theorem State.oamSearchDot_cfg (s : State) : s.oamSearchDot.cfg = s.cfg := (congrArg State.cfg (oamSearchDot_frame s) :)
@[simp] theorem State.oamSearchDot_reg (s : State) : s.oamSearchDot.reg = s.reg := (congrArg State.reg (oamSearchDot_frame s) :)
@[simp] theorem State.oamSearchDot_odma (s : State) : s.oamSearchDot.odma = s.odma := (congrArg State.odma (oamSearchDot_frame s) :)
@[simp] theorem State.oamSearchDot_vdma (s : State) : s.oamSearchDot.vdma = s.vdma := (congrArg State.vdma (oamSearchDot_frame s) :)
@[simp] theorem State.oamSearchDot_mem (s : State) : s.oamSearchDot.mem = s.mem := (congrArg State.mem (oamSearchDot_frame s) :)
@[simp] theorem State.oamSearchDot_out (s : State) : s.oamSearchDot.out = s.out := (congrArg State.out (oamSearchDot_frame s) :)
@[simp] theorem State.oamSearchDot_cnt (s : State) : s.oamSearchDot.cnt = s.cnt := (congrArg State.cnt (oamSearchDot_frame s) :)
@[simp] theorem State.oamSearchDot_events (s : State) : s.oamSearchDot.events = s.events := (congrArg State.events (oamSearchDot_frame s) :)

theorem enterHBlank_frame (s : State) :
    s.enterHBlank = { s with ctl := s.enterHBlank.ctl, out := s.enterHBlank.out } := by unfold State.enterHBlank; rw [raiseIf_frame]
@[simp] theorem State.enterHBlank_cfg (s : State) : s.enterHBlank.cfg = s.cfg := (congrArg State.cfg (enterHBlank_frame s) :)
@[simp] theorem State.enterHBlank_reg (s : State) : s.enterHBlank.reg = s.reg := (congrArg State.reg (enterHBlank_frame s) :)
@[simp] theorem State.enterHBlank_bg (s : State) : s.enterHBlank.bg = s.bg := (congrArg State.bg (enterHBlank_frame s) :)
@[simp] theorem State.enterHBlank_sp (s : State) : s.enterHBlank.sp = s.sp := (congrArg State.sp (enterHBlank_frame s) :)
@[simp] theorem State.enterHBlank_lx (s : State) : s.enterHBlank.lx = s.lx := (congrArg State.lx (enterHBlank_frame s) :)
@[simp] theorem State.enterHBlank_odma (s : State) : s.enterHBlank.odma = s.odma := (congrArg State.odma (enterHBlank_frame s) :)
@[simp] theorem State.enterHBlank_vdma (s : State) : s.enterHBlank.vdma = s.vdma := (congrArg State.vdma (enterHBlank_frame s) :)
@[simp] theorem State.enterHBlank_mem (s : State) : s.enterHBlank.mem = s.mem := (congrArg State.mem (enterHBlank_frame s) :)
@[simp] theorem State.enterHBlank_cnt (s : State) : s.enterHBlank.cnt = s.cnt := (congrArg State.cnt (enterHBlank_frame s) :)
@[simp] theorem State.enterHBlank_events (s : State) : s.enterHBlank.events = s.events := (congrArg State.events (enterHBlank_frame s) :)

theorem endDraw_frame (s : State) :
    s.endDraw = { s with ctl := s.endDraw.ctl, out := s.endDraw.out } := by unfold State.endDraw; rw [enterHBlank_frame]
@[simp] theorem State.endDraw_cfg (s : State) : s.endDraw.cfg = s.cfg := (congrArg State.cfg (endDraw_frame s) :)
@[simp] theorem State.endDraw_reg (s : State) : s.endDraw.reg = s.reg := (congrArg State.reg (endDraw_frame s) :)
@[simp] theorem State.endDraw_bg (s : State) : s.endDraw.bg = s.bg := (congrArg State.bg (endDraw_frame s) :)
@[simp] theorem State.endDraw_sp (s : State) : s.endDraw.sp = s.sp := (congrArg State.sp (endDraw_frame s) :)
@[simp] theorem State.endDraw_lx (s : State) : s.endDraw.lx = s.lx := (congrArg State.lx (endDraw_frame s) :)
@[simp] theorem State.endDraw_odma (s : State) : s.endDraw.odma = s.odma := (congrArg State.odma (endDraw_frame s) :)
@[simp] theorem State.endDraw_vdma (s : State) : s.endDraw.vdma = s.vdma := (congrArg State.vdma (endDraw_frame s) :)
@[simp] theorem State.endDraw_mem (s : State) : s.endDraw.mem = s.mem := (congrArg State.mem (endDraw_frame s) :)
@[simp] theorem State.endDraw_cnt (s : State) : s.endDraw.cnt = s.cnt := (congrArg State.cnt (endDraw_frame s) :)
@[simp] theorem State.endDraw_events (s : State) : s.endDraw.events = s.events := (congrArg State.events (endDraw_frame s) :)

theorem drawDot_frame (s : State) :
    s.drawDot = { s with ctl := s.drawDot.ctl, bg := s.drawDot.bg, sp := s.drawDot.sp, lx := s.drawDot.lx, mem := s.drawDot.mem, out := s.drawDot.out } := by
  unfold State.drawDot; split
  · rw [endDraw_frame]
  · have h := spriteStep_frame s
    split
    · next t heq => rw [heq] at h; dsimp only at h; rw [h]
    · next t heq => rw [heq] at h; dsimp only at h; rw [mixStep_frame, bgStep_frame, h]
@[simp] theorem State.drawDot_cfg (s : State) : s.drawDot.cfg = s.cfg := (congrArg State.cfg (drawDot_frame s) :)
@[simp] theorem State.drawDot_reg (s : State) : s.drawDot.reg = s.reg := (congrArg State.reg (drawDot_frame s) :)
@[simp] theorem State.drawDot_odma (s : State) : s.drawDot.odma = s.odma := (congrArg State.odma (drawDot_frame s) :)
@[simp] theorem State.drawDot_vdma (s : State) : s.drawDot.vdma = s.vdma := (congrArg State.vdma (drawDot_frame s) :)
@[simp] theorem State.drawDot_cnt (s : State) : s.drawDot.cnt = s.cnt := (congrArg State.cnt (drawDot_frame s) :)
@[simp] theorem State.drawDot_events (s : State) : s.drawDot.events = s.events := (congrArg State.events (drawDot_frame s) :)

theorem enterVBlank_frame (s : State) :
    s.enterVBlank = { s with ctl := s.enterVBlank.ctl, out := s.enterVBlank.out } := by unfold State.enterVBlank; dsimp only; rw [raiseIf_frame]; rfl
@[simp] theorem State.enterVBlank_cfg (s : State) : s.enterVBlank.cfg = s.cfg := (congrArg State.cfg (enterVBlank_frame s) :)
@[simp] theorem State.enterVBlank_reg (s : State) : s.enterVBlank.reg = s.reg := (congrArg State.reg (enterVBlank_frame s) :)
@[simp] theorem State.enterVBlank_bg (s : State) : s.enterVBlank.bg = s.bg := (congrArg State.bg (enterVBlank_frame s) :)
@[simp] theorem State.enterVBlank_sp (s : State) : s.enterVBlank.sp = s.sp := (congrArg State.sp (enterVBlank_frame s) :)
@[simp] theorem State.enterVBlank_lx (s : State) : s.enterVBlank.lx = s.lx := (congrArg State.lx (enterVBlank_frame s) :)
@[simp] theorem State.enterVBlank_odma (s : State) : s.enterVBlank.odma = s.odma := (congrArg State.odma (enterVBlank_frame s) :)
@[simp] theorem State.enterVBlank_vdma (s : State) : s.enterVBlank.vdma = s.vdma := (congrArg State.vdma (enterVBlank_frame s) :)
@[simp] theorem State.enterVBlank_mem (s : State) : s.enterVBlank.mem = s.mem := (congrArg State.mem (enterVBlank_frame s) :)
@[simp] theorem State.enterVBlank_cnt (s : State) : s.enterVBlank.cnt = s.cnt := (congrArg State.cnt (enterVBlank_frame s) :)
@[simp] theorem State.enterVBlank_events (s : State) : s.enterVBlank.events = s.events := (congrArg State.events (enterVBlank_frame s) :)

theorem endOfLine_frame (s : State) :
    s.endOfLine = { s with ctl := s.endOfLine.ctl, out := s.endOfLine.out } := by unfold State.endOfLine; dsimp only; split; (rw [enterVBlank_frame]); (rw [enterOamSearch_frame])
@[simp] theorem State.endOfLine_cfg (s : State) : s.endOfLine.cfg = s.cfg := (congrArg State.cfg (endOfLine_frame s) :)
@[simp] theorem State.endOfLine_reg (s : State) : s.endOfLine.reg = s.reg := (congrArg State.reg (endOfLine_frame s) :)
@[simp] theorem State.endOfLine_bg (s : State) : s.endOfLine.bg = s.bg := (congrArg State.bg (endOfLine_frame s) :)
@[simp] theorem State.endOfLine_sp (s : State) : s.endOfLine.sp = s.sp := (congrArg State.sp (endOfLine_frame s) :)
@[simp] theorem State.endOfLine_lx (s : State) : s.endOfLine.lx = s.lx := (congrArg State.lx (endOfLine_frame s) :)
@[simp] theorem State.endOfLine_odma (s : State) : s.endOfLine.odma = s.odma := (congrArg State.odma (endOfLine_frame s) :)
@[simp] theorem State.endOfLine_vdma (s : State) : s.endOfLine.vdma = s.vdma := (congrArg State.vdma (endOfLine_frame s) :)
@[simp] theorem State.endOfLine_mem (s : State) : s.endOfLine.mem = s.mem := (congrArg State.mem (endOfLine_frame s) :)
@[simp] theorem State.endOfLine_cnt (s : State) : s.endOfLine.cnt = s.cnt := (congrArg State.cnt (endOfLine_frame s) :)
@[simp] theorem State.endOfLine_events (s : State) : s.endOfLine.events = s.events := (congrArg State.events (endOfLine_frame s) :)

theorem hblankDot_frame (s : State) :
    s.hblankDot = { s with ctl := s.hblankDot.ctl, vdma := s.hblankDot.vdma, mem := s.hblankDot.mem, out := s.hblankDot.out } := by unfold State.hblankDot; dsimp only; split; (rw [endOfLine_frame, vdmaHblankCopy_frame]); (rw [vdmaHblankCopy_frame])
@[simp] theorem State.hblankDot_cfg (s : State) : s.hblankDot.cfg = s.cfg := (congrArg State.cfg (hblankDot_frame s) :)
@[simp] theorem State.hblankDot_reg (s : State) : s.hblankDot.reg = s.reg := (congrArg State.reg (hblankDot_frame s) :)
@[simp] theorem State.hblankDot_bg (s : State) : s.hblankDot.bg = s.bg := (congrArg State.bg (hblankDot_frame s) :)
@[simp] theorem State.hblankDot_sp (s : State) : s.hblankDot.sp = s.sp := (congrArg State.sp (hblankDot_frame s) :)
@[simp] theorem State.hblankDot_lx (s : State) : s.hblankDot.lx = s.lx := (congrArg State.lx (hblankDot_frame s) :)
@[simp] theorem State.hblankDot_odma (s : State) : s.hblankDot.odma = s.odma := (congrArg State.odma (hblankDot_frame s) :)
@[simp] theorem State.hblankDot_cnt (s : State) : s.hblankDot.cnt = s.cnt := (congrArg State.cnt (hblankDot_frame s) :)
@[simp] theorem State.hblankDot_events (s : State) : s.hblankDot.events = s.events := (congrArg State.events (hblankDot_frame s) :)

theorem vblankDot_frame (s : State) :
    s.vblankDot = { s with ctl := s.vblankDot.ctl, out := s.vblankDot.out } := by unfold State.vblankDot; split; (rw [enterOamSearch_frame]); split <;> rfl
@[simp] theorem State.vblankDot_cfg (s : State) : s.vblankDot.cfg = s.cfg := (congrArg State.cfg (vblankDot_frame s) :)
@[simp] theorem State.vblankDot_reg (s : State) : s.vblankDot.reg = s.reg := (congrArg State.reg (vblankDot_frame s) :)
@[simp] theorem State.vblankDot_bg (s : State) : s.vblankDot.bg = s.bg := (congrArg State.bg (vblankDot_frame s) :)
@[simp] theorem State.vblankDot_sp (s : State) : s.vblankDot.sp = s.sp := (congrArg State.sp (vblankDot_frame s) :)
@[simp] theorem State.vblankDot_lx (s : State) : s.vblankDot.lx = s.lx := (congrArg State.lx (vblankDot_frame s) :)
@[simp] theorem State.vblankDot_odma (s : State) : s.vblankDot.odma = s.odma := (congrArg State.odma (vblankDot_frame s) :)
@[simp] theorem State.vblankDot_vdma (s : State) : s.vblankDot.vdma = s.vdma := (congrArg State.vdma (vblankDot_frame s) :)
@[simp] theorem State.vblankDot_mem (s : State) : s.vblankDot.mem = s.mem := (congrArg State.mem (vblankDot_frame s) :)
@[simp] theorem State.vblankDot_cnt (s : State) : s.vblankDot.cnt = s.cnt := (congrArg State.cnt (vblankDot_frame s) :)
@[simp] theorem State.vblankDot_events (s : State) : s.vblankDot.events = s.events := (congrArg State.events (vblankDot_frame s) :)

theorem controllerStep_frame (s : State) :
    s.controllerStep = { s with ctl := s.controllerStep.ctl, bg := s.controllerStep.bg, sp := s.controllerStep.sp, lx := s.controllerStep.lx, vdma := s.controllerStep.vdma, mem := s.controllerStep.mem, out := s.controllerStep.out } := by
  unfold State.controllerStep; dsimp only; split
  · rw [oamSearchDot_frame]
  · rw [drawDot_frame]
  · rw [hblankDot_frame]
  · rw [vblankDot_frame]
@[simp] theorem State.controllerStep_cfg (s : State) : s.controllerStep.cfg = s.cfg := (congrArg State.cfg (controllerStep_frame s) :)
@[simp] theorem State.controllerStep_reg (s : State) : s.controllerStep.reg = s.reg := (congrArg State.reg (controllerStep_frame s) :)
@[simp] theorem State.controllerStep_odma (s : State) : s.controllerStep.odma = s.odma := (congrArg State.odma (controllerStep_frame s) :)
@[simp] theorem State.controllerStep_cnt (s : State) : s.controllerStep.cnt = s.cnt := (congrArg State.cnt (controllerStep_frame s) :)
@[simp] theorem State.controllerStep_events (s : State) : s.controllerStep.events = s.events := (congrArg State.events (controllerStep_frame s) :)

theorem lcdDisable_frame (s : State) :
    s.lcdDisable = { s with ctl := s.lcdDisable.ctl, bg := s.lcdDisable.bg, sp := s.lcdDisable.sp, lx := s.lcdDisable.lx } := rfl
@[simp] theorem State.lcdDisable_cfg (s : State) : s.lcdDisable.cfg = s.cfg := (congrArg State.cfg (lcdDisable_frame s) :)
@[simp] theorem State.lcdDisable_reg (s : State) : s.lcdDisable.reg = s.reg := (congrArg State.reg (lcdDisable_frame s) :)
@[simp] theorem State.lcdDisable_odma (s : State) : s.lcdDisable.odma = s.odma := (congrArg State.odma (lcdDisable_frame s) :)
@[simp] theorem State.lcdDisable_vdma (s : State) : s.lcdDisable.vdma = s.vdma := (congrArg State.vdma (lcdDisable_frame s) :)
@[simp] theorem State.lcdDisable_mem (s : State) : s.lcdDisable.mem = s.mem := (congrArg State.mem (lcdDisable_frame s) :)
@[simp] theorem State.lcdDisable_out (s : State) : s.lcdDisable.out = s.out := (congrArg State.out (lcdDisable_frame s) :)
@[simp] theorem State.lcdDisable_cnt (s : State) : s.lcdDisable.cnt = s.cnt := (congrArg State.cnt (lcdDisable_frame s) :)
@[simp] theorem State.lcdDisable_events (s : State) : s.lcdDisable.events = s.events := (congrArg State.events (lcdDisable_frame s) :)

theorem lcdEnable_frame (s : State) :
    s.lcdEnable = { s with ctl := s.lcdEnable.ctl, out := s.lcdEnable.out } := enterOamSearch_frame s
@[simp] theorem State.lcdEnable_cfg (s : State) : s.lcdEnable.cfg = s.cfg := (congrArg State.cfg (lcdEnable_frame s) :)
@[simp] theorem State.lcdEnable_reg (s : State) : s.lcdEnable.reg = s.reg := (congrArg State.reg (lcdEnable_frame s) :)
@[simp] theorem State.lcdEnable_bg (s : State) : s.lcdEnable.bg = s.bg := (congrArg State.bg (lcdEnable_frame s) :)
@[simp] theorem State.lcdEnable_sp (s : State) : s.lcdEnable.sp = s.sp := (congrArg State.sp (lcdEnable_frame s) :)
@[simp] theorem State.lcdEnable_lx (s : State) : s.lcdEnable.lx = s.lx := (congrArg State.lx (lcdEnable_frame s) :)
@[simp] theorem State.lcdEnable_odma (s : State) : s.lcdEnable.odma = s.odma := (congrArg State.odma (lcdEnable_frame s) :)
@[simp] theorem State.lcdEnable_vdma (s : State) : s.lcdEnable.vdma = s.vdma := (congrArg State.vdma (lcdEnable_frame s) :)
@[simp] theorem State.lcdEnable_mem (s : State) : s.lcdEnable.mem = s.mem := (congrArg State.mem (lcdEnable_frame s) :)
@[simp] theorem State.lcdEnable_cnt (s : State) : s.lcdEnable.cnt = s.cnt := (congrArg State.cnt (lcdEnable_frame s) :)
@[simp] theorem State.lcdEnable_events (s : State) : s.lcdEnable.events = s.events := (congrArg State.events (lcdEnable_frame s) :)

theorem dot_frame (s : State) :
    s.dot = { s with ctl := s.dot.ctl, bg := s.dot.bg, sp := s.dot.sp, lx := s.dot.lx, odma := s.dot.odma, vdma := s.dot.vdma, mem := s.dot.mem, out := s.dot.out } := by
  unfold State.dot; dsimp only; split <;> rw [vdmaTick_frame, oamDmaTick_frame]
  rw [controllerStep_frame]
@[simp] theorem State.dot_cfg (s : State) : s.dot.cfg = s.cfg := (congrArg State.cfg (dot_frame s) :)
@[simp] theorem State.dot_reg (s : State) : s.dot.reg = s.reg := (congrArg State.reg (dot_frame s) :)
@[simp] theorem State.dot_cnt (s : State) : s.dot.cnt = s.cnt := (congrArg State.cnt (dot_frame s) :)
@[simp] theorem State.dot_events (s : State) : s.dot.events = s.events := (congrArg State.events (dot_frame s) :)

end Sys2Proof.Machine
end

