-- ==== Sys2Proof/Laws/Memory.lean ====
section
/-! SUPPORT. The laws of the sparse memories: reading after a write, the canonical form, and what the operations of State that
store a byte do to every byte. -/

namespace Sys2Proof.Machine

/-! ### One memory -/

@[simp] theorem Memory.lookup_nil {α : Type} (a : Nat) : Memory.lookup ([] : Memory α) a = none := rfl

@[simp] theorem Memory.lookup_write_same {α : Type} (m : Memory α) (a : Nat) (v : α) : (m.write a v).lookup a = some v := by
  induction m with
  | nil => simp [Memory.write, Memory.lookup]
  | cons p m ih =>
    obtain ⟨k, w⟩ := p
    unfold Memory.write
    split
    · simp [Memory.lookup]
    · split
      · simp [Memory.lookup]
      · next h => simp [Memory.lookup, Ne.symm h, ih]

theorem Memory.lookup_eq_none {α : Type} (m : Memory α) (a : Nat) (h : ∀ p ∈ m, a < p.1) : m.lookup a = none := by
  induction m with
  | nil => rfl
  | cons p m ih =>
    have hp := h p (by simp)
    simp [Memory.lookup, Nat.ne_of_gt hp, ih fun q hq => h q (by simp [hq])]

theorem Memory.lookup_write_other {α : Type} (m : Memory α) (a b : Nat) (v : α) (h : b ≠ a) :
    (m.write a v).lookup b = m.lookup b := by
  induction m with
  | nil => simp [Memory.write, Memory.lookup, Ne.symm h]
  | cons p m ih =>
    obtain ⟨k, w⟩ := p
    unfold Memory.write
    split
    · simp [Memory.lookup, Ne.symm h]
    · split
      · next h' => subst h'; simp [Memory.lookup, Ne.symm h]
      · simp [Memory.lookup, ih]

theorem Memory.lookup_write {α : Type} (m : Memory α) (a b : Nat) (v : α) :
    (m.write a v).lookup b = if b = a then some v else m.lookup b := by
  split
  · next h => subst h; simp
  · next h => exact Memory.lookup_write_other m a b v h

theorem Memory.mem_write {α : Type} (m : Memory α) (a : Nat) (v : α) (p : Nat × α) (h : p ∈ m.write a v) :
    p = (a, v) ∨ p ∈ m := by
  induction m with
  | nil => simpa [Memory.write] using h
  | cons q m ih =>
    obtain ⟨k, w⟩ := q
    unfold Memory.write at h
    split at h
    · simpa using h
    · split at h
      · rcases List.mem_cons.1 h with h | h
        · exact .inl h
        · exact .inr (by simp [h])
      · rcases List.mem_cons.1 h with h | h
        · exact .inr (by simp [h])
        · rcases ih h with h | h
          · exact .inl h
          · exact .inr (by simp [h])

/-- A write keeps the canonical form. -/
theorem Memory.write_wf {α : Type} (m : Memory α) (a : Nat) (v : α) (h : m.wf) : (m.write a v).wf := by
  induction m with
  | nil => simp [Memory.write]
  | cons q m ih =>
    obtain ⟨k, w⟩ := q
    obtain ⟨h1, h2⟩ := List.pairwise_cons.1 h
    unfold Memory.write
    split
    · next hk =>
      refine List.pairwise_cons.2 ⟨fun p hp => ?_, h⟩
      rcases List.mem_cons.1 hp with rfl | hp
      · exact hk
      · exact Nat.lt_trans hk (h1 p hp)
    · split
      · next hk => subst hk; exact List.pairwise_cons.2 ⟨fun p hp => h1 p hp, h2⟩
      · next hk1 hk2 =>
        refine List.pairwise_cons.2 ⟨fun p hp => ?_, ih h2⟩
        rcases Memory.mem_write m a v p hp with rfl | hp
        · show k < a
          omega
        · exact h1 p hp

theorem Memory.write_within {α : Type} (m : Memory α) (a lo hi : Nat) (v : α) (h : m.within lo hi) (ha : lo ≤ a ∧ a < hi) :
    (m.write a v).within lo hi := by
  intro p hp
  rcases Memory.mem_write m a v p hp with rfl | hp
  · exact ha
  · exact h p hp

/-- Two canonical memories that read the same everywhere are equal: an unlisted address reads as "not written". -/
theorem Memory.ext_of_lookup {α : Type} (m n : Memory α) (hm : m.wf) (hn : n.wf) (h : ∀ a, m.lookup a = n.lookup a) :
    m = n := by
  induction m generalizing n with
  | nil =>
    cases n with
    | nil => rfl
    | cons q n => have := h q.1; simp [Memory.lookup] at this
  | cons p m ih =>
    cases n with
    | nil => have := h p.1; simp [Memory.lookup] at this
    | cons q n =>
      obtain ⟨hm1, hm2⟩ := List.pairwise_cons.1 hm
      obtain ⟨hn1, hn2⟩ := List.pairwise_cons.1 hn
      have hpq : p.1 = q.1 := by
        by_contra hne
        rcases Nat.lt_or_gt_of_ne hne with hlt | hlt
        · have := h p.1
          rw [Memory.lookup_eq_none (q :: n) p.1 fun r hr => by
            rcases List.mem_cons.1 hr with rfl | hr
            · exact hlt
            · exact Nat.lt_trans hlt (hn1 r hr)] at this
          simp [Memory.lookup] at this
        · have := h q.1
          rw [Memory.lookup_eq_none (p :: m) q.1 fun r hr => by
            rcases List.mem_cons.1 hr with rfl | hr
            · exact hlt
            · exact Nat.lt_trans hlt (hm1 r hr)] at this
          simp [Memory.lookup] at this
      have hv : p.2 = q.2 := by
        have := h p.1
        simpa [Memory.lookup, hpq] using this
      have hmn : m = n := ih n hm2 hn2 fun a => by
        by_cases ha : a = p.1
        · subst ha
          rw [Memory.lookup_eq_none m _ hm1, Memory.lookup_eq_none n _ fun r hr => hpq ▸ hn1 r hr]
        · have := h a
          simpa [Memory.lookup, Ne.symm ha, ← hpq] using this
      rw [hmn, Prod.ext hpq hv]

/-! ### The byte memories of State -/

@[simp] theorem Memories.cells_store_same (m : Memories) (p : Space) (a : Nat) (v : Byte) :
    (m.store p a v).cells p = (m.cells p).write a v := by
  cases p <;> rfl

theorem Memories.cells_store_other (m : Memories) (p q : Space) (a : Nat) (v : Byte) (h : q ≠ p) :
    (m.store p a v).cells q = m.cells q := by
  cases p <;> cases q <;> first | rfl | exact absurd rfl h

@[simp] theorem Memories.store_fb (m : Memories) (p : Space) (a : Nat) (v : Byte) : (m.store p a v).fb = m.fb := by
  cases p <;> rfl

/-- Reading after a store of one byte (R78, R79). -/
theorem State.peek_poke (s : State) (p q : Space) (a b : Nat) (v : Byte) :
    (s.poke p a v).peek q b = if q = p ∧ b = a then v else s.peek q b := by
  by_cases hq : q = p
  · subst hq
    simp only [State.peek, State.poke_mem, Memories.cells_store_same, Memory.lookup_write, true_and]
    split <;> rfl
  · simp [State.peek, Memories.cells_store_other _ _ _ _ _ hq, hq]

@[simp] theorem State.peek_poke_same (s : State) (p : Space) (a : Nat) (v : Byte) : (s.poke p a v).peek p a = v := by
  simp [State.peek_poke]

/-- A read depends on the memories alone. -/
theorem State.peek_congr (s t : State) (h : t.mem = s.mem) (p : Space) (a : Nat) : t.peek p a = s.peek p a := by
  simp [State.peek, h]

@[simp] theorem State.peek_fbWrite (s : State) (y x : Nat) (c : Color15) (p : Space) (a : Nat) :
    (s.fbWrite y x c).peek p a = s.peek p a := by
  cases p <;> rfl

/-- Reading a cell of the framebuffer after a write of one (R215). -/
theorem State.fbCell_fbWrite (s : State) (y x y' x' : Nat) (c : Color15) :
    (s.fbWrite y x c).fbCell y' x' = if fbKey y' x' = fbKey y x then c else s.fbCell y' x' := by
  simp only [State.fbCell, State.fbWrite_mem, Memory.lookup_write]
  split <;> rfl

@[simp] theorem State.fbCell_poke (s : State) (p : Space) (a : Nat) (v : Byte) (y x : Nat) :
    (s.poke p a v).fbCell y x = s.fbCell y x := by
  simp [State.fbCell]

/-! ### The canonical form -/

/-- The addresses a byte memory has (R49, R70). -/
def Space.covers : Space → Nat → Prop
  | .ext, a => a < 0x10000
  | .vram0, a | .vram1, a => 0x8000 ≤ a ∧ a < 0xA000
  | .oam, a => a < 0xA0
  | .bgpal, a | .objpal, a => a < 64

/-- A store at an address the memory has keeps every memory canonical and within its addresses. -/
theorem State.poke_memInv (s : State) (p : Space) (a : Nat) (v : Byte) (h : s.memInv) (ha : Space.covers p a) :
    (s.poke p a v).memInv := by
  obtain ⟨h1, h2, h3, h4, h5, h6, h7⟩ := h
  cases p with
  | ext => exact ⟨⟨Memory.write_wf _ _ _ h1.1, Memory.write_within _ _ _ _ _ h1.2 ⟨Nat.zero_le _, ha⟩⟩, h2, h3, h4, h5, h6, h7⟩
  | vram0 => exact ⟨h1, ⟨Memory.write_wf _ _ _ h2.1, Memory.write_within _ _ _ _ _ h2.2 ha⟩, h3, h4, h5, h6, h7⟩
  | vram1 => exact ⟨h1, h2, ⟨Memory.write_wf _ _ _ h3.1, Memory.write_within _ _ _ _ _ h3.2 ha⟩, h4, h5, h6, h7⟩
  | oam => exact ⟨h1, h2, h3, ⟨Memory.write_wf _ _ _ h4.1, Memory.write_within _ _ _ _ _ h4.2 ⟨Nat.zero_le _, ha⟩⟩, h5, h6, h7⟩
  | bgpal => exact ⟨h1, h2, h3, h4, ⟨Memory.write_wf _ _ _ h5.1, Memory.write_within _ _ _ _ _ h5.2 ⟨Nat.zero_le _, ha⟩⟩, h6, h7⟩
  | objpal => exact ⟨h1, h2, h3, h4, h5, ⟨Memory.write_wf _ _ _ h6.1, Memory.write_within _ _ _ _ _ h6.2 ⟨Nat.zero_le _, ha⟩⟩, h7⟩

/-- A framebuffer write keeps every memory canonical. -/
theorem State.fbWrite_memInv (s : State) (y x : Nat) (c : Color15) (h : s.memInv) : (s.fbWrite y x c).memInv := by
  obtain ⟨h1, h2, h3, h4, h5, h6, h7⟩ := h
  exact ⟨h1, h2, h3, h4, h5, h6, Memory.write_wf _ _ _ h7⟩

/-- The memories after reset are canonical, for any parameters. -/
theorem State.resetWith_memInv (p : Parameters) : (State.resetWith p).memInv := by
  simp [State.memInv, State.resetWith, Memories.reset, Memory.within]

/-- The invariant depends on the memories alone. -/
theorem State.memInv_congr (s t : State) (h : t.mem = s.mem) : t.memInv ↔ s.memInv := by
  simp [State.memInv, h]

theorem wrapVram_toNat (a : Addr) : (wrapVram a).toNat = 0x8000 + a.toNat % 0x2000 := by
  have h : (0x8000#16 ||| (a &&& 0x1FFF#16)) = 0x8000#16 + (a &&& 0x1FFF#16) := by
    rw [BitVec.add_eq_or_of_and_eq_zero]
    rw [BitVec.and_comm a, ← BitVec.and_assoc]; simp
  have h2 : (a &&& 0x1FFF#16).toNat = a.toNat % 0x2000 := by
    rw [BitVec.toNat_and]; exact Nat.and_two_pow_sub_one_eq_mod a.toNat 13
  have := a.isLt
  rw [wrapVram, h, BitVec.toNat_add, h2]
  simp; omega

/-- A destination of the VRAM DMA Engine is an address of video memory (R76, R246). -/
theorem vramSpace_covers_wrap (b : BitVec 1) (a : Addr) : Space.covers (vramSpace b) (wrapVram a).toNat := by
  rw [wrapVram_toNat]; unfold vramSpace; split <;> (simp only [Space.covers]; omega)

/-- An operation that keeps the invariant, applied once for each element of a list, keeps it. -/
theorem memInv_foldl (f : State → Nat → State) (P : Nat → Prop) (hf : ∀ s k, P k → s.memInv → (f s k).memInv) :
    ∀ (l : List Nat) (s : State), (∀ k ∈ l, P k) → s.memInv → (l.foldl f s).memInv
  | [], _, _, h => h
  | k :: l, s, hl, h =>
    memInv_foldl f P hf l (f s k) (fun j hj => hl j (by simp [hj])) (hf s k (hl k (by simp)) h)

/-- The OAM DMA copy keeps every memory canonical. -/
theorem State.oamDmaCopy_memInv (s : State) (h : s.memInv) : s.oamDmaCopy.memInv :=
  memInv_foldl State.oamDmaByte (· < Config.oamDmaLen) (fun _ k hk h => State.poke_memInv _ _ _ _ h hk) _ s
    (fun k hk => by simpa using hk) h

/-- The bytes of a VRAM DMA block keep every memory canonical. -/
theorem State.blockBytes_memInv (s : State) (h : s.memInv) : s.blockBytes.memInv :=
  memInv_foldl State.vdmaByte (fun _ => True) (fun _ _ _ h => State.poke_memInv _ _ _ _ h (vramSpace_covers_wrap _ _)) _ s
    (fun _ _ => trivial) h

@[simp] theorem State.copyBlock_mem (s : State) : s.copyBlock.mem = s.blockBytes.mem := by rw [State.copyBlock]

/-- What a block copy does to the engine (R246). -/
@[simp] theorem State.copyBlock_vdma (s : State) : s.copyBlock.vdma =
    { s.vdma with src := s.vdma.src + 16#16, dst := wrapVram (s.vdma.dst + 16#16) } := by rw [State.copyBlock]

/-- A VRAM DMA block copy keeps every memory canonical. -/
theorem State.copyBlock_memInv (s : State) (h : s.memInv) : s.copyBlock.memInv :=
  (State.memInv_congr _ _ (State.copyBlock_mem s)).2 (State.blockBytes_memInv s h)

theorem State.copyBlocks_memInv (n : Nat) (s : State) (h : s.memInv) : (s.copyBlocks n).memInv := by
  unfold State.copyBlocks
  induction n generalizing s with
  | zero => exact h
  | succ n ih => rw [Function.iterate_succ_apply]; exact ih _ (State.copyBlock_memInv s h)

/-- The Mixer keeps every memory canonical. -/
theorem State.mixStep_memInv (s : State) (h : s.memInv) : s.mixStep.memInv := by
  unfold State.mixStep
  split
  · exact h
  · split
    · exact State.fbWrite_memInv s _ _ _ h
    · exact h

/-! ### The bound of the framebuffer -/

/-- A write of a cell of the screen keeps the framebuffer within its cells (R44, R215). -/
theorem State.fbWrite_fbInv (s : State) (y x : Nat) (c : Color15) (h : s.fbInv) (hy : y < 144) (hx : x < 160) :
    (s.fbWrite y x c).fbInv :=
  Memory.write_within _ _ _ _ _ h (by simp only [fbKey]; omega)

/-- The bound depends on the framebuffer alone. -/
theorem State.fbInv_congr (s t : State) (h : t.mem.fb = s.mem.fb) : t.fbInv ↔ s.fbInv := by
  simp [State.fbInv, h]

/-- The Mixer on a visible line with the cursor on the screen keeps the framebuffer within its cells (R210). -/
theorem State.mixStep_fbInv (s : State) (h : s.fbInv) (hy : s.ctl.ly.toNat < 144) (hx : s.lx < 160) : s.mixStep.fbInv := by
  unfold State.mixStep
  split
  · exact h
  · split
    · exact State.fbWrite_fbInv s _ _ _ h hy hx
    · exact h

/-- The framebuffer after reset lists no cell, for any parameters. -/
theorem State.resetWith_fbInv (p : Parameters) : (State.resetWith p).fbInv := by
  simp [State.fbInv, State.resetWith, Memories.reset, Memory.within]

end Sys2Proof.Machine
end

