-- ==== Sys2Proof/Laws/Ops.lean ====
section
/-! SUPPORT. One lemma for each shared operation that says what it can do: the bus map, signals, the phases of a dot, the copy
loops and what a VRAM DMA copy leaves, the step. -/

namespace Sys2Proof.Machine

/-! ### The bus map -/

theorem selectsVram_eq_isVram (a : Addr) : selectsVram a = a.isVram := by
  rw [Bool.eq_iff_iff]
  simp only [selectsVram, Addr.isVram, beq_iff_eq, decide_eq_true_eq, ← BitVec.toNat_inj, BitVec.extractLsb'_toNat]
  have := a.isLt
  simp [Nat.shiftRight_eq_div_pow]; omega

theorem selectsOam_eq_isOam (a : Addr) : selectsOam a = a.isOam := by
  rw [Bool.eq_iff_iff]
  simp only [selectsOam, Addr.isOam, Bool.and_eq_true, beq_iff_eq, decide_eq_true_eq, ← BitVec.toNat_inj,
    BitVec.extractLsb'_toNat]
  have := a.isLt
  simp [Nat.shiftRight_eq_div_pow]; omega

theorem isMem_iff (a : Addr) : a.isMem = true ↔ a ∉ registerAddresses ∧ a.isVram = false ∧ a.isOam = false := by
  simp [Addr.isMem, and_assoc]

/-- No address of the register block is an address of video memory or of `oam`. -/
theorem registerAddresses_high : ∀ a ∈ registerAddresses, a.isVram = false ∧ a.isOam = false := by
  simp [registerAddresses, Addr.isVram, Addr.isOam]

/-- Where a bus address goes that is no register (R102). -/
theorem busTarget_memory (a : Addr) (h : a ∉ registerAddresses) :
    busTarget a = if a.isVram then .vram else if a.isOam then .oam else .mem := by
  simp only [registerAddresses, List.mem_cons, List.not_mem_nil, or_false, not_or] at h
  simp only [busTarget, h, if_false, selectsVram_eq_isVram, selectsOam_eq_isOam]

theorem busTarget_vram (a : Addr) (h : a.isVram = true) : busTarget a = .vram := by
  have hn : a ∉ registerAddresses := fun hm => by simp [registerAddresses_high a hm] at h
  simp [busTarget_memory a hn, h]

theorem busTarget_oam (a : Addr) (h : a.isOam = true) : busTarget a = .oam := by
  have hn : a ∉ registerAddresses := fun hm => by simp [registerAddresses_high a hm] at h
  have hv : a.isVram = false := by
    simp only [Addr.isOam, Addr.isVram, decide_eq_true_eq, decide_eq_false_iff_not] at h ⊢; omega
  simp [busTarget_memory a hn, h, hv]

theorem busTarget_mem (a : Addr) (h : a.isMem = true) : busTarget a = .mem := by
  obtain ⟨h1, h2, h3⟩ := (isMem_iff a).1 h
  simp [busTarget_memory a h1, h2, h3]

/-! ### Signals -/

/-- What a conditional signal adds (R45). -/
theorem State.raiseIf_signals (s : State) (c : Bool) (g : Signal) :
    (s.raiseIf c g).out.signals = if c then s.out.signals.add g else s.out.signals := by
  cases c <;> rfl

@[simp] theorem State.raiseIf_data (s : State) (c : Bool) (g : Signal) : (s.raiseIf c g).out.data = s.out.data := by
  cases c <;> rfl

@[simp] theorem State.raiseIf_false (s : State) (g : Signal) : s.raiseIf false g = s := rfl

@[simp] theorem State.raiseIf_true (s : State) (g : Signal) : s.raiseIf true g = s.raise g := rfl

/-- `EnterOamSearch` (R132): what it leaves, and that it raises at most STAT_IRQ. -/
theorem State.enterOamSearch_ctl (s : State) : s.enterOamSearch.ctl =
    { s.ctl with mode := .oamSearch, modeDot := 0, wyTrigger := s.wyReached, wxTrigger := false, coin := s.coincides } := by
  simp [State.enterOamSearch]

theorem State.enterOamSearch_signals (s : State) : s.enterOamSearch.out.signals =
    if (s.coincides && s.lycIe) || (s.cfg.statOamIrq && s.oamIe) then s.out.signals.add .statIrq else s.out.signals := by
  simp only [State.enterOamSearch, State.raiseIf_signals]
  have hc : ∀ c d : Bool, (if d then (if c then s.out.signals.add .statIrq else s.out.signals).add .statIrq
      else if c then s.out.signals.add .statIrq else s.out.signals) =
      if c || d then s.out.signals.add .statIrq else s.out.signals := by
    intro c d; cases c <;> cases d <;> rfl
  exact hc _ _

/-- `EnterHBlank` (R137). -/
theorem State.enterHBlank_ctl (s : State) : s.enterHBlank.ctl = { s.ctl with mode := .hBlank, modeDot := 0, hblankCopied := false } := by
  simp [State.enterHBlank]

theorem State.enterHBlank_signals (s : State) :
    s.enterHBlank.out.signals = if s.hblankIe then s.out.signals.add .statIrq else s.out.signals := by
  simp [State.enterHBlank, State.raiseIf_signals]

/-- `EnterVBlank` (R140). -/
theorem State.enterVBlank_ctl (s : State) : s.enterVBlank.ctl = { s.ctl with mode := .vBlank, modeDot := 0 } := by
  simp [State.enterVBlank]

theorem State.enterVBlank_signals (s : State) : s.enterVBlank.out.signals =
    { vblankIrq := true, statIrq := s.out.signals.statIrq || s.vblankIe, frameReady := true } := by
  simp only [State.enterVBlank, State.raiseIf_signals, State.vblankIe]
  cases h : s.reg.statIe.getLsbD 1 <;> simp [Signals.add]

/-! ### The phases of a dot -/

/-- The controller's phase of a `TICK` (R130). -/
def State.phase (s : State) : State := if s.lcdEn then s.controllerStep else s

theorem State.dot_eq (s : State) : s.dot = s.phase.oamDmaTick.vdmaTick := rfl

/-- The DMA engines of a dot change none of these, so they are what the controller left (R130). -/
theorem State.dot_ctl (s : State) : s.dot.ctl = s.phase.ctl := by simp [State.dot_eq]
theorem State.dot_bg (s : State) : s.dot.bg = s.phase.bg := by simp [State.dot_eq]
theorem State.dot_sp (s : State) : s.dot.sp = s.phase.sp := by simp [State.dot_eq]
theorem State.dot_lx (s : State) : s.dot.lx = s.phase.lx := by simp [State.dot_eq]
theorem State.dot_out (s : State) : s.dot.out = s.phase.out := by simp [State.dot_eq]

/-- The controller changes neither OAM DMA nor registers; in each mode it does the dot of that mode (R131). -/
theorem State.controllerStep_oamSearch (s : State) (h : s.ctl.mode = .oamSearch) :
    s.controllerStep = State.oamSearchDot { s with ctl := { s.ctl with modeDot := s.ctl.modeDot + 1 } } := by
  simp only [State.controllerStep, h]
theorem State.controllerStep_draw (s : State) (h : s.ctl.mode = .draw) :
    s.controllerStep = State.drawDot { s with ctl := { s.ctl with modeDot := s.ctl.modeDot + 1 } } := by
  simp only [State.controllerStep, h]
theorem State.controllerStep_hBlank (s : State) (h : s.ctl.mode = .hBlank) :
    s.controllerStep = State.hblankDot { s with ctl := { s.ctl with modeDot := s.ctl.modeDot + 1 } } := by
  simp only [State.controllerStep, h]
theorem State.controllerStep_vBlank (s : State) (h : s.ctl.mode = .vBlank) :
    s.controllerStep = State.vblankDot { s with ctl := { s.ctl with modeDot := s.ctl.modeDot + 1 } } := by
  simp only [State.controllerStep, h]

/-! ### The step -/

/-- When `TICK` answers a next state, and which (R130, R331). -/
theorem exec_tick_next (s t : State) : exec .tick s = .next t ↔ s.drawOverruns = false ∧ t = s.quiet.dot.countSignals := by
  show execTick s = .next t ↔ _
  unfold execTick
  cases s.drawOverruns <;> simp [eq_comm]

/-- `TICK` never refuses and has one fault. -/
theorem exec_tick_fault (s : State) (f : Fault) : exec .tick s = .fault f ↔ s.drawOverruns = true ∧ f = .drawOverrun := by
  show execTick s = .fault f ↔ _
  unfold execTick
  cases s.drawOverruns <;> simp [eq_comm]

theorem drawOverruns_iff (s : State) :
    s.drawOverruns = true ↔ s.lcdEn = true ∧ s.ctl.mode = .draw ∧ 375 ≤ s.ctl.modeDot := by
  simp [State.drawOverruns, and_assoc]

/-- Everything a step that answers a next state can have done (log entry 1). -/
theorem step_cases (s t : State) (h : step s = .next t) :
    (s.events = [] ∧ t = s) ∨
      ∃ w rest i, s.events = w :: rest ∧ decode w = .ok i ∧ exec i { s with events := rest } = .next t := by
  unfold step at h
  split at h
  · next he => exact .inl ⟨he, by simpa using h.symm⟩
  · next w rest he =>
    split at h
    · simp at h
    · next i hi => exact .inr ⟨w, rest, i, he, hi, h⟩

/-- Only `TICK` faults, and no event is refused. -/
theorem exec_fault_tick (i : Instr) (s : State) (f : Fault) (h : exec i s = .fault f) : i = .tick := by
  cases i <;> first | rfl | cases h

/-! ### Loops over bytes -/

/-- A fold of stores into one space leaves every byte it does not store to. -/
theorem peek_foldl_other (f : State → Nat → State) (p : Space) (a : Nat) (hf : ∀ s k, (f s k).peek p a = s.peek p a) :
    ∀ (l : List Nat) (s : State), (l.foldl f s).peek p a = s.peek p a
  | [], _ => rfl
  | k :: l, s => (peek_foldl_other f p a hf l (f s k)).trans (hf s k)

/-- The OAM DMA copy stores into `oam` alone (R231). -/
theorem State.oamDmaCopy_peek_other (s : State) (p : Space) (a : Nat) (h : p ≠ .oam) : s.oamDmaCopy.peek p a = s.peek p a :=
  peek_foldl_other _ p a (fun s k => by simp [State.oamDmaByte, State.oamWrite, State.peek_poke, h]) _ _

/-- A block copy stores into bank `vbk` alone (R246). -/
theorem State.blockBytes_peek_other (s : State) (p : Space) (a : Nat) (h : p ≠ .vram0 ∧ p ≠ .vram1) :
    s.blockBytes.peek p a = s.peek p a :=
  peek_foldl_other _ p a (fun s k => by
    rw [State.vdmaByte, State.vramWrite, State.peek_poke, if_neg]
    rintro ⟨rfl, -⟩
    unfold vramSpace at h; split at h <;> simp at h) _ _

/-! ### The Background Fetcher and the Sprite Fetcher's state -/

/-- The Background Fetcher neither reads nor changes the Sprite Fetcher's state (R160). -/
theorem State.bgStep_setSp (s : State) (p : SpriteFetcher) : State.bgStep { s with sp := p } = { s.bgStep with sp := p } := by
  have hpush : ∀ u : State, State.tryPush { u with sp := p } = { u.tryPush with sp := p } := fun u => by
    unfold State.tryPush State.push State.scrollDiscard
    dsimp only
    split
    · split <;> rfl
    · rfl
  have hwin : State.windowEntryCheck { s with sp := p } = { s.windowEntryCheck with sp := p } := by
    have he : State.entersWindow { s with sp := p } = s.entersWindow := rfl
    have hs : State.windowEntryStalls { s with sp := p } = s.windowEntryStalls := rfl
    unfold State.windowEntryCheck State.enterWindow
    rw [he, hs]
    cases s.entersWindow <;> cases s.windowEntryStalls <;> rfl
  have hdot : ∀ u : State, State.bgStageDot { u with sp := p } = { u.bgStageDot with sp := p } := fun u => by
    unfold State.bgStageDot
    dsimp only
    split
    · split <;> rfl
    · split <;> rfl
    · split
      · exact hpush { u with bg := { u.bg with stage := .sleep, stageDot := 0 } }
      · rfl
    · exact hpush u
    · exact hpush u
  unfold State.bgStep
  rw [hwin]
  dsimp only
  split
  · rfl
  · exact hdot _

/-! ### The block's own read -/

/-- The block's own read of an address that is no register, by the memory it goes to (R72). -/
theorem State.memRead_memory (s : State) (a : Addr) :
    (busTarget a = .mem → s.memRead a = s.peek .ext a.toNat) ∧
    (busTarget a = .oam → s.memRead a = s.peek .oam (a.toNat - 0xFE00)) ∧
    (busTarget a = .vram → s.memRead a = s.peek (vramSpace s.reg.vbk) a.toNat) := by
  refine ⟨fun h => ?_, fun h => ?_, fun h => ?_⟩ <;>
    simp only [State.memRead, State.busRead, Bool.not_true, Bool.false_and, Bool.false_eq_true, if_false, State.dispatchRead, h] <;> rfl

/-- The block's own read after a store to bank `vbk` of video memory (R72, R78). -/
theorem State.memRead_vramWrite (s : State) (c : Nat) (v : Byte) (a : Addr) :
    (s.vramWrite s.reg.vbk c v).memRead a = if busTarget a = .vram ∧ a.toNat = c then v else s.memRead a := by
  have hv : vramSpace s.reg.vbk = .vram0 ∨ vramSpace s.reg.vbk = .vram1 := by unfold vramSpace; split <;> simp
  have hp : ∀ q b, (s.vramWrite s.reg.vbk c v).peek q b = if q = vramSpace s.reg.vbk ∧ b = c then v else s.peek q b :=
    fun q b => State.peek_poke s _ q c b v
  have ho : ∀ q b, q ≠ .vram0 → q ≠ .vram1 → (s.vramWrite s.reg.vbk c v).peek q b = s.peek q b := fun q b h0 h1 => by
    rw [hp, if_neg]; rintro ⟨rfl, -⟩; rcases hv with h | h <;> contradiction
  by_cases h : busTarget a = .vram
  · rw [((State.memRead_memory _ a).2.2 h), ((State.memRead_memory s a).2.2 h), hp]
    simp [h, State.vramWrite]
  · simp only [h, false_and, if_false]
    simp only [State.memRead, State.busRead, Bool.not_true, Bool.false_and, Bool.false_eq_true, if_false]
    cases hb : busTarget a <;> simp only [State.dispatchRead, hb] <;>
      first
        | rfl
        | exact absurd hb h
        | exact ho .oam _ (by decide) (by decide)
        | exact ho .ext _ (by decide) (by decide)
        | exact congrArg s.cgbRead (ho .bgpal _ (by decide) (by decide))
        | exact congrArg s.cgbRead (ho .objpal _ (by decide) (by decide))

/-- A `vram` address is in the window of video memory. -/
theorem busTarget_ne_vram (a : Addr) (h : busTarget a ≠ .vram) (x : Nat) (hx : 0x8000 ≤ x ∧ x < 0xA000) : a.toNat ≠ x := by
  rintro rfl
  exact h (busTarget_vram a (by simpa [Addr.isVram] using by omega))

/-! ### The copies of the VRAM DMA Engine -/

/-- The first `n` bytes of a VRAM DMA copy, ascending (R246). -/
def State.vdmaBytes (s : State) (n : Nat) : State := (List.range n).foldl State.vdmaByte s

theorem State.vdmaBytes_succ (s : State) (n : Nat) : s.vdmaBytes (n + 1) = (s.vdmaBytes n).vdmaByte n := by
  simp [State.vdmaBytes, List.range_succ]

theorem State.vdmaBytes_frame (s : State) (n : Nat) : s.vdmaBytes n = { s with mem := (s.vdmaBytes n).mem } := by
  induction n with
  | zero => rfl
  | succ n ih => rw [State.vdmaBytes_succ, vdmaByte_frame, ih]

theorem vdmaCell_eq (dst : Addr) (j : Nat) : (wrapVram (dst + BitVec.ofNat 16 j)).toNat = vdmaCell dst.toNat j := by
  rw [wrapVram_toNat, BitVec.toNat_add, BitVec.toNat_ofNat, vdmaCell]; omega

theorem vdmaCell_vram (dst j : Nat) : 0x8000 ≤ vdmaCell dst j ∧ vdmaCell dst j < 0xA000 := by unfold vdmaCell; omega

theorem vdmaCell_ne (dst i j n : Nat) (hn : n ≤ 0x2000) (hij : i < j) (hj : j < n) : vdmaCell dst i ≠ vdmaCell dst j := by
  unfold vdmaCell; omega

/-- Byte `n` of a copy stores at cell `n` of the destination, and nowhere else (R246). -/
theorem State.vdmaBytes_peek_succ (s : State) (n : Nat) (p : Space) (x : Nat) : (s.vdmaBytes (n + 1)).peek p x =
    if p = vramSpace s.reg.vbk ∧ x = vdmaCell s.vdma.dst.toNat n
      then (s.vdmaBytes n).memRead (s.vdma.src + BitVec.ofNat 16 n) else (s.vdmaBytes n).peek p x := by
  have h := State.vdmaBytes_frame s n
  rw [State.vdmaBytes_succ]
  generalize s.vdmaBytes n = u at h ⊢
  have hr : u.reg = s.reg := by rw [h]
  have hv : u.vdma = s.vdma := by rw [h]
  rw [State.vdmaByte, State.vramWrite, State.peek_poke, hr, hv, vdmaCell_eq]

/-- A read of an address that no byte of the copy has been stored to is a read before the copy (R72, R246). -/
theorem State.vdmaBytes_memRead (s : State) (n : Nat) (a : Addr) (h : ∀ i < n, vdmaCell s.vdma.dst.toNat i ≠ a.toNat) :
    (s.vdmaBytes n).memRead a = s.memRead a := by
  induction n with
  | zero => rfl
  | succ n ih =>
    have hf := State.vdmaBytes_frame s n
    have ih := ih fun i hi => h i (by omega)
    rw [State.vdmaBytes_succ]
    generalize s.vdmaBytes n = u at hf ih ⊢
    have hv : u.vdma = s.vdma := by rw [hf]
    rw [State.vdmaByte, State.memRead_vramWrite, if_neg, ih]
    rintro ⟨-, ha⟩
    exact h n (by omega) (by rw [ha, hv, vdmaCell_eq])

/-- A byte once copied stays for the rest of the copy (R246). -/
theorem State.vdmaBytes_stay (s : State) (j n : Nat) (hn : n ≤ 0x2000) (hj : j < n) :
    (s.vdmaBytes n).peek (vramSpace s.reg.vbk) (vdmaCell s.vdma.dst.toNat j) =
      (s.vdmaBytes j).memRead (s.vdma.src + BitVec.ofNat 16 j) := by
  induction n with
  | zero => omega
  | succ n ih =>
    rw [State.vdmaBytes_peek_succ]
    by_cases hjn : j = n
    · subst hjn; simp
    · rw [if_neg, ih (by omega) (by omega)]
      exact fun h => vdmaCell_ne s.vdma.dst.toNat j n (n + 1) hn (by omega) (by omega) h.2

/-- What a copy of at most 8192 bytes leaves at its destination (R246). -/
theorem State.vdmaBytes_copied (s : State) (n : Nat) (hn : n ≤ 0x2000) :
    CopiedBytes s (s.vdmaBytes n) s.vdma.src.toNat s.vdma.dst.toNat n := by
  intro j a hj ha
  have ha : a = s.vdma.src + BitVec.ofNat 16 j := by
    apply BitVec.eq_of_toNat_eq; simp [ha, BitVec.toNat_add]
  have hstay := State.vdmaBytes_stay s j n hn hj
  rw [← ha] at hstay
  have hout : busTarget a ≠ .vram → (s.vdmaBytes j).memRead a = s.memRead a := fun h =>
    State.vdmaBytes_memRead s j a fun i _ he => busTarget_ne_vram a h _ (vdmaCell_vram _ i) he.symm
  have hm := State.memRead_memory s a
  refine ⟨fun h => hstay.trans (hout h), fun h => ?_, fun h => ?_, fun h hi => ?_, fun i hi he => ?_⟩
  · exact hstay.trans ((hout (by simp [h])).trans (hm.1 h))
  · exact hstay.trans ((hout (by simp [h])).trans (hm.2.1 h))
  · exact hstay.trans ((State.vdmaBytes_memRead s j a hi).trans (hm.2.2 h))
  · have hvr : busTarget a = .vram := by
      by_contra h
      exact busTarget_ne_vram a h _ (vdmaCell_vram s.vdma.dst.toNat i) he.symm
    have hr : (s.vdmaBytes j).reg = s.reg := by rw [State.vdmaBytes_frame]
    rw [hstay, (State.memRead_memory _ a).2.2 hvr, hr, ← he, State.vdmaBytes_stay s i j (by omega) hi,
      State.vdmaBytes_stay s i n hn (by omega)]

/-- A copy stores to its destination alone (R246). -/
theorem State.vdmaBytes_peek_other (s : State) (n : Nat) (p : Space) (x : Nat)
    (h : ¬(p = vramSpace s.reg.vbk ∧ ∃ j < n, x = vdmaCell s.vdma.dst.toNat j)) : (s.vdmaBytes n).peek p x = s.peek p x := by
  induction n with
  | zero => rfl
  | succ n ih =>
    rw [State.vdmaBytes_peek_succ, if_neg fun hc => h ⟨hc.1, n, by omega, hc.2⟩,
      ih fun hc => h ⟨hc.1, hc.2.imp fun j hj => ⟨by omega, hj.2⟩⟩]

/-- A block of 16 bytes is one copy (R246). -/
theorem State.blockBytes_eq (s : State) : s.blockBytes = s.vdmaBytes 16 := rfl

/-- A byte of a copy whose addresses have moved on by `m` is byte `m + k` of the copy (R246). -/
theorem State.vdmaByte_shift (s : State) (m k : Nat) (d : Addr)
    (hd : ∀ k, wrapVram (d + BitVec.ofNat 16 k) = wrapVram (s.vdma.dst + BitVec.ofNat 16 (m + k))) :
    State.vdmaByte { s with vdma := { s.vdma with src := s.vdma.src + BitVec.ofNat 16 m, dst := d } } k =
      { s.vdmaByte (m + k) with vdma := { s.vdma with src := s.vdma.src + BitVec.ofNat 16 m, dst := d } } := by
  have hread : ∀ a : Addr, State.memRead { s with vdma := { s.vdma with src := s.vdma.src + BitVec.ofNat 16 m, dst := d } } a =
      s.memRead a := fun a => rfl
  have hs : s.vdma.src + BitVec.ofNat 16 m + BitVec.ofNat 16 k = s.vdma.src + BitVec.ofNat 16 (m + k) := by
    rw [BitVec.add_assoc, BitVec.ofNat_add]
  unfold State.vdmaByte
  rw [hread]
  dsimp only
  rw [hd, hs]
  rfl

/-- Copying `n` blocks is one copy of `16 * n` bytes, after which both addresses have moved on (R241, R246). -/
theorem State.copyBlocks_eq (s : State) (n : Nat) : ∃ d : Addr,
    s.copyBlocks n = { s.vdmaBytes (16 * n) with vdma := { s.vdma with src := s.vdma.src + BitVec.ofNat 16 (16 * n), dst := d } } ∧
    (∀ k, wrapVram (d + BitVec.ofNat 16 k) = wrapVram (s.vdma.dst + BitVec.ofNat 16 (16 * n + k))) ∧
    (0 < n → d.toNat = vdmaCell s.vdma.dst.toNat (16 * n)) := by
  induction n with
  | zero => exact ⟨s.vdma.dst, by simp [State.copyBlocks, State.vdmaBytes], by simp, by simp⟩
  | succ n ih =>
    obtain ⟨d, h, hd, -⟩ := ih
    have hstep : s.copyBlocks (n + 1) = (s.copyBlocks n).copyBlock := Function.iterate_succ_apply' _ _ _
    have hloop : ∀ k, State.vdmaBytes (s.copyBlocks n) k =
        { s.vdmaBytes (16 * n + k) with vdma := { s.vdma with src := s.vdma.src + BitVec.ofNat 16 (16 * n), dst := d } } := by
      intro k
      induction k with
      | zero => exact h
      | succ k ihk =>
        have hvk : (s.vdmaBytes (16 * n + k)).vdma = s.vdma := by rw [State.vdmaBytes_frame]
        rw [State.vdmaBytes_succ, ihk]
        have := State.vdmaByte_shift (s.vdmaBytes (16 * n + k)) (16 * n) k d (by rw [hvk]; exact hd)
        rw [hvk] at this
        rw [this, ← State.vdmaBytes_succ]
        rfl
    refine ⟨wrapVram (d + 16#16), ?_, fun k => ?_, fun _ => ?_⟩
    · have hsrc : (s.copyBlocks n).vdma = { s.vdma with src := s.vdma.src + BitVec.ofNat 16 (16 * n), dst := d } := by rw [h]
      rw [hstep, State.copyBlock, State.blockBytes_eq, hloop 16, hsrc]
      have : s.vdma.src + BitVec.ofNat 16 (16 * n) + 16#16 = s.vdma.src + BitVec.ofNat 16 (16 * (n + 1)) := by
        rw [BitVec.add_assoc, show (16#16 : Addr) = BitVec.ofNat 16 16 from rfl, ← BitVec.ofNat_add]; rfl
      rw [← this]
      rfl
    · apply BitVec.eq_of_toNat_eq
      have h2 := congrArg BitVec.toNat (hd (16 + k))
      rw [vdmaCell_eq, vdmaCell_eq] at h2 ⊢
      unfold vdmaCell at *
      rw [wrapVram_toNat, BitVec.toNat_add]
      simp only [BitVec.toNat_ofNat]
      omega
    · have h2 := congrArg BitVec.toNat (hd 16)
      exact h2.trans (vdmaCell_eq _ _)

end Sys2Proof.Machine
end

