-- ==== Sys2Proof/Laws/PerInstr.lean ====
section
/-! SUPPORT. The statement made of every event as syntax (30_encoding.md R100): bits 29:24 of its word are 0 and its kind is not
the reserved one. -/

namespace Sys2Proof.Laws

/-- The four fields of a word laid out by `eventWord` (R100). -/
theorem eventWord_fields (k : BitVec 2) (a : Addr) (d : Byte) :
    kindField (eventWord k a d) = k ∧ zeroField (eventWord k a d) = 0#6 ∧ addrField (eventWord k a d) = a ∧
      dataField (eventWord k a d) = d := by
  refine ⟨?_, ?_, ?_, ?_⟩ <;> ext i hi <;>
    simp only [kindField, zeroField, addrField, dataField, eventWord, BitVec.getElem_extractLsb', BitVec.getLsbD_append] <;>
    simp <;> grind

/-- Bits 29:24 of the word of `i` are 0 and its kind is not 11 (R100). -/
def MustBeZero.Statement (i : Instr) : Prop := zeroField (encode i) = 0#6 ∧ kindField (encode i) ≠ 0b11#2

/-- It holds for a word of any kind but the reserved one. -/
theorem mustBeZero_eventWord (k : BitVec 2) (a : Addr) (d : Byte) (h : k ≠ 0b11#2) :
    zeroField (eventWord k a d) = 0#6 ∧ kindField (eventWord k a d) ≠ 0b11#2 := by
  obtain ⟨h1, h2, -, -⟩ := eventWord_fields k a d
  exact ⟨h2, fun e => h (h1.symm.trans e)⟩

theorem MustBeZero.tick : MustBeZero.Statement .tick := mustBeZero_eventWord _ _ _ (by decide)
theorem MustBeZero.rdLcdc : MustBeZero.Statement .rdLcdc := mustBeZero_eventWord _ _ _ (by decide)
theorem MustBeZero.wrLcdc (d : Byte) : MustBeZero.Statement (.wrLcdc d) := mustBeZero_eventWord _ _ _ (by decide)
theorem MustBeZero.rdStat : MustBeZero.Statement .rdStat := mustBeZero_eventWord _ _ _ (by decide)
theorem MustBeZero.wrStat (d : Byte) : MustBeZero.Statement (.wrStat d) := mustBeZero_eventWord _ _ _ (by decide)
theorem MustBeZero.rdScy : MustBeZero.Statement .rdScy := mustBeZero_eventWord _ _ _ (by decide)
theorem MustBeZero.wrScy (d : Byte) : MustBeZero.Statement (.wrScy d) := mustBeZero_eventWord _ _ _ (by decide)
theorem MustBeZero.rdScx : MustBeZero.Statement .rdScx := mustBeZero_eventWord _ _ _ (by decide)
theorem MustBeZero.wrScx (d : Byte) : MustBeZero.Statement (.wrScx d) := mustBeZero_eventWord _ _ _ (by decide)
theorem MustBeZero.rdLy : MustBeZero.Statement .rdLy := mustBeZero_eventWord _ _ _ (by decide)
theorem MustBeZero.wrLy (d : Byte) : MustBeZero.Statement (.wrLy d) := mustBeZero_eventWord _ _ _ (by decide)
theorem MustBeZero.rdLyc : MustBeZero.Statement .rdLyc := mustBeZero_eventWord _ _ _ (by decide)
theorem MustBeZero.wrLyc (d : Byte) : MustBeZero.Statement (.wrLyc d) := mustBeZero_eventWord _ _ _ (by decide)
theorem MustBeZero.rdDma : MustBeZero.Statement .rdDma := mustBeZero_eventWord _ _ _ (by decide)
theorem MustBeZero.wrDma (d : Byte) : MustBeZero.Statement (.wrDma d) := mustBeZero_eventWord _ _ _ (by decide)
theorem MustBeZero.rdBgp : MustBeZero.Statement .rdBgp := mustBeZero_eventWord _ _ _ (by decide)
theorem MustBeZero.wrBgp (d : Byte) : MustBeZero.Statement (.wrBgp d) := mustBeZero_eventWord _ _ _ (by decide)
theorem MustBeZero.rdObp0 : MustBeZero.Statement .rdObp0 := mustBeZero_eventWord _ _ _ (by decide)
theorem MustBeZero.wrObp0 (d : Byte) : MustBeZero.Statement (.wrObp0 d) := mustBeZero_eventWord _ _ _ (by decide)
theorem MustBeZero.rdObp1 : MustBeZero.Statement .rdObp1 := mustBeZero_eventWord _ _ _ (by decide)
theorem MustBeZero.wrObp1 (d : Byte) : MustBeZero.Statement (.wrObp1 d) := mustBeZero_eventWord _ _ _ (by decide)
theorem MustBeZero.rdWy : MustBeZero.Statement .rdWy := mustBeZero_eventWord _ _ _ (by decide)
theorem MustBeZero.wrWy (d : Byte) : MustBeZero.Statement (.wrWy d) := mustBeZero_eventWord _ _ _ (by decide)
theorem MustBeZero.rdWx : MustBeZero.Statement .rdWx := mustBeZero_eventWord _ _ _ (by decide)
theorem MustBeZero.wrWx (d : Byte) : MustBeZero.Statement (.wrWx d) := mustBeZero_eventWord _ _ _ (by decide)
theorem MustBeZero.rdVbk : MustBeZero.Statement .rdVbk := mustBeZero_eventWord _ _ _ (by decide)
theorem MustBeZero.wrVbk (d : Byte) : MustBeZero.Statement (.wrVbk d) := mustBeZero_eventWord _ _ _ (by decide)
theorem MustBeZero.rdHdma1 : MustBeZero.Statement .rdHdma1 := mustBeZero_eventWord _ _ _ (by decide)
theorem MustBeZero.wrHdma1 (d : Byte) : MustBeZero.Statement (.wrHdma1 d) := mustBeZero_eventWord _ _ _ (by decide)
theorem MustBeZero.rdHdma2 : MustBeZero.Statement .rdHdma2 := mustBeZero_eventWord _ _ _ (by decide)
theorem MustBeZero.wrHdma2 (d : Byte) : MustBeZero.Statement (.wrHdma2 d) := mustBeZero_eventWord _ _ _ (by decide)
theorem MustBeZero.rdHdma3 : MustBeZero.Statement .rdHdma3 := mustBeZero_eventWord _ _ _ (by decide)
theorem MustBeZero.wrHdma3 (d : Byte) : MustBeZero.Statement (.wrHdma3 d) := mustBeZero_eventWord _ _ _ (by decide)
theorem MustBeZero.rdHdma4 : MustBeZero.Statement .rdHdma4 := mustBeZero_eventWord _ _ _ (by decide)
theorem MustBeZero.wrHdma4 (d : Byte) : MustBeZero.Statement (.wrHdma4 d) := mustBeZero_eventWord _ _ _ (by decide)
theorem MustBeZero.rdHdma5 : MustBeZero.Statement .rdHdma5 := mustBeZero_eventWord _ _ _ (by decide)
theorem MustBeZero.wrHdma5 (d : Byte) : MustBeZero.Statement (.wrHdma5 d) := mustBeZero_eventWord _ _ _ (by decide)
theorem MustBeZero.rdBcps : MustBeZero.Statement .rdBcps := mustBeZero_eventWord _ _ _ (by decide)
theorem MustBeZero.wrBcps (d : Byte) : MustBeZero.Statement (.wrBcps d) := mustBeZero_eventWord _ _ _ (by decide)
theorem MustBeZero.rdBcpd : MustBeZero.Statement .rdBcpd := mustBeZero_eventWord _ _ _ (by decide)
theorem MustBeZero.wrBcpd (d : Byte) : MustBeZero.Statement (.wrBcpd d) := mustBeZero_eventWord _ _ _ (by decide)
theorem MustBeZero.rdOcps : MustBeZero.Statement .rdOcps := mustBeZero_eventWord _ _ _ (by decide)
theorem MustBeZero.wrOcps (d : Byte) : MustBeZero.Statement (.wrOcps d) := mustBeZero_eventWord _ _ _ (by decide)
theorem MustBeZero.rdOcpd : MustBeZero.Statement .rdOcpd := mustBeZero_eventWord _ _ _ (by decide)
theorem MustBeZero.wrOcpd (d : Byte) : MustBeZero.Statement (.wrOcpd d) := mustBeZero_eventWord _ _ _ (by decide)
theorem MustBeZero.rdVram (a : Addr) : MustBeZero.Statement (.rdVram a) := mustBeZero_eventWord _ _ _ (by decide)
theorem MustBeZero.wrVram (a : Addr) (d : Byte) : MustBeZero.Statement (.wrVram a d) := mustBeZero_eventWord _ _ _ (by decide)
theorem MustBeZero.rdOam (a : Addr) : MustBeZero.Statement (.rdOam a) := mustBeZero_eventWord _ _ _ (by decide)
theorem MustBeZero.wrOam (a : Addr) (d : Byte) : MustBeZero.Statement (.wrOam a d) := mustBeZero_eventWord _ _ _ (by decide)
theorem MustBeZero.rdMem (a : Addr) : MustBeZero.Statement (.rdMem a) := mustBeZero_eventWord _ _ _ (by decide)
theorem MustBeZero.wrMem (a : Addr) (d : Byte) : MustBeZero.Statement (.wrMem a d) := mustBeZero_eventWord _ _ _ (by decide)

end Sys2Proof.Laws
end

