-- ==== Sys2Proof/Tests/Slice0.lean ====
section
/-! SUPPORT. Tests: ill-formed terms, words written out from 30_encoding.md, one step of each event with values of
95_test_vectors.md, and for each statement with hypotheses a state that meets them. -/

namespace Sys2Proof.Machine

/-! ### States of the tests -/

/-- Monochrome, the convention of 95_test_vectors.md. -/
def tMono : Parameters := { cgbMode := false, doubleSpeed := false, statOamIrq := false, oamTieBreak := .lowerIndexFirst }
/-- Color mode. -/
def tCgb : Parameters := { tMono with cgbMode := true }
/-- Reset in monochrome. -/
def tM : State := State.resetWith tMono
/-- Reset in color mode. -/
def tC : State := State.resetWith tCgb
/-- A state in a given mode, dot and line with the display on. -/
def tAt (s : State) (m : LcdMode) (dot : Nat) (ly : Byte) : State :=
  { s with reg := { s.reg with lcdc := 0x80#8 }, ctl := { s.ctl with mode := m, modeDot := dot, ly := ly } }
/-- A background pixel of color 2. -/
def tPixel : Pixel := { color := 2#2, pal := 0#3, isSprite := false, bgOverObj := false, bgToOam := false, key := 0 }
/-- DRAW at dot 20 of line 0, column 5, with a background queue of `n` pixels of color 2. -/
def tDraw (s : State) (n : Nat) : State :=
  let t := tAt s .draw 20 0#8
  { t with lx := 5, bg := { t.bg with queue := List.replicate n tPixel } }
/-- The same with one sprite of the line at column 5 and the Sprite Fetcher in stage `st`. -/
def tSprite (s : State) (st : SpriteStage) : State :=
  let t := tDraw s 9
  { t with reg := { t.reg with lcdc := 0x82#8 }, sp := { t.sp with line := [{ idx := 0, sx := 5, done := false }], stage := st } }
/-- An OAM DMA with `n` dots counted. -/
def tOdma (n : Nat) : State := { tM with odma := { active := true, src := 0xC000#16, dots := n } }
/-- A VRAM DMA in a given mode. -/
def tVdma (s : State) (m : VdmaMode) : State :=
  { s with vdma := { mode := m, src := 0xC000#16, dst := 0x9FF0#16, blocks := 2, dots := 62, threshold := 64, len := 1#7 } }
/-- Some bytes: `ext` at 0xC000, `vram` at 0x8000, OAM record 0 at line 0, column 5. -/
def tBytes (s : State) : State :=
  { s with mem := { s.mem with
      ext := [(0xC000, 0xAB#8)]
      vram0 := [(0x8000, 0x12#8)]
      vram1 := [(0x8000, 0x77#8)]
      oam := [(0, 16#8), (1, 13#8), (2, 0#8), (3, 0#8)] } }

/-- The event answers a next state that meets `p`. -/
def tNext (i : Instr) (s : State) (p : State → Bool) : Bool :=
  match exec i s with
  | .next t => p t
  | .fault _ => false
  | .refused _ => false
/-- The event answers the byte `r` and raises nothing. -/
def tReads (i : Instr) (s : State) (r : Byte) : Bool := tNext i s fun t => t.out == { signals := Signals.none, data := some r }

/-! ### WellFormed: what the check refuses -/

theorem test_wf_rdVram : Instr.wf (.rdVram 0xA000#16) = false := by decide
theorem test_wf_wrVram : Instr.wf (.wrVram 0x7FFF#16 1#8) = false := by decide
theorem test_wf_rdOam : Instr.wf (.rdOam 0xFEA0#16) = false := by decide
theorem test_wf_wrOam : Instr.wf (.wrOam 0xFDFF#16 1#8) = false := by decide
theorem test_wf_rdMem_register : Instr.wf (.rdMem 0xFF40#16) = false := by decide
theorem test_wf_rdMem_vram : Instr.wf (.rdMem 0x8000#16) = false := by decide
theorem test_wf_wrMem_oam : Instr.wf (.wrMem 0xFE9F#16 1#8) = false := by decide
theorem test_wf_bounds : Instr.wf (.rdVram 0x8000#16) = true ∧ Instr.wf (.wrVram 0x9FFF#16 1#8) = true ∧
    Instr.wf (.rdOam 0xFE00#16) = true ∧ Instr.wf (.wrOam 0xFE9F#16 1#8) = true ∧ Instr.wf (.rdMem 0xFEA0#16) = true ∧
    Instr.wf (.wrMem 0xFF4C#16 1#8) = true := by decide

/-! ### Decoding: words written out from R100 and R102 (T1) -/

theorem test_decode_tick : decode 0b00000000000000000000000000000000#32 = .ok .tick := by decide
theorem test_decode_lcdc : decode 0b01000000111111110100000000000000#32 = .ok .rdLcdc ∧
    decode 0b10000000111111110100000010100101#32 = .ok (.wrLcdc 0xA5#8) := by decide
theorem test_decode_stat : decode 0b01000000111111110100000100000000#32 = .ok .rdStat ∧
    decode 0b10000000111111110100000110100101#32 = .ok (.wrStat 0xA5#8) := by decide
theorem test_decode_scy : decode 0b01000000111111110100001000000000#32 = .ok .rdScy ∧
    decode 0b10000000111111110100001010100101#32 = .ok (.wrScy 0xA5#8) := by decide
theorem test_decode_scx : decode 0b01000000111111110100001100000000#32 = .ok .rdScx ∧
    decode 0b10000000111111110100001110100101#32 = .ok (.wrScx 0xA5#8) := by decide
theorem test_decode_ly : decode 0b01000000111111110100010000000000#32 = .ok .rdLy ∧
    decode 0b10000000111111110100010010100101#32 = .ok (.wrLy 0xA5#8) := by decide
theorem test_decode_lyc : decode 0b01000000111111110100010100000000#32 = .ok .rdLyc ∧
    decode 0b10000000111111110100010110100101#32 = .ok (.wrLyc 0xA5#8) := by decide
theorem test_decode_dma : decode 0b01000000111111110100011000000000#32 = .ok .rdDma ∧
    decode 0b10000000111111110100011010100101#32 = .ok (.wrDma 0xA5#8) := by decide
theorem test_decode_bgp : decode 0b01000000111111110100011100000000#32 = .ok .rdBgp ∧
    decode 0b10000000111111110100011110100101#32 = .ok (.wrBgp 0xA5#8) := by decide
theorem test_decode_obp0 : decode 0b01000000111111110100100000000000#32 = .ok .rdObp0 ∧
    decode 0b10000000111111110100100010100101#32 = .ok (.wrObp0 0xA5#8) := by decide
theorem test_decode_obp1 : decode 0b01000000111111110100100100000000#32 = .ok .rdObp1 ∧
    decode 0b10000000111111110100100110100101#32 = .ok (.wrObp1 0xA5#8) := by decide
theorem test_decode_wy : decode 0b01000000111111110100101000000000#32 = .ok .rdWy ∧
    decode 0b10000000111111110100101010100101#32 = .ok (.wrWy 0xA5#8) := by decide
theorem test_decode_wx : decode 0b01000000111111110100101100000000#32 = .ok .rdWx ∧
    decode 0b10000000111111110100101110100101#32 = .ok (.wrWx 0xA5#8) := by decide
theorem test_decode_vbk : decode 0b01000000111111110100111100000000#32 = .ok .rdVbk ∧
    decode 0b10000000111111110100111110100101#32 = .ok (.wrVbk 0xA5#8) := by decide
theorem test_decode_hdma1 : decode 0b01000000111111110101000100000000#32 = .ok .rdHdma1 ∧
    decode 0b10000000111111110101000110100101#32 = .ok (.wrHdma1 0xA5#8) := by decide
theorem test_decode_hdma2 : decode 0b01000000111111110101001000000000#32 = .ok .rdHdma2 ∧
    decode 0b10000000111111110101001010100101#32 = .ok (.wrHdma2 0xA5#8) := by decide
theorem test_decode_hdma3 : decode 0b01000000111111110101001100000000#32 = .ok .rdHdma3 ∧
    decode 0b10000000111111110101001110100101#32 = .ok (.wrHdma3 0xA5#8) := by decide
theorem test_decode_hdma4 : decode 0b01000000111111110101010000000000#32 = .ok .rdHdma4 ∧
    decode 0b10000000111111110101010010100101#32 = .ok (.wrHdma4 0xA5#8) := by decide
theorem test_decode_hdma5 : decode 0b01000000111111110101010100000000#32 = .ok .rdHdma5 ∧
    decode 0b10000000111111110101010110100101#32 = .ok (.wrHdma5 0xA5#8) := by decide
theorem test_decode_bcps : decode 0b01000000111111110110100000000000#32 = .ok .rdBcps ∧
    decode 0b10000000111111110110100010100101#32 = .ok (.wrBcps 0xA5#8) := by decide
theorem test_decode_bcpd : decode 0b01000000111111110110100100000000#32 = .ok .rdBcpd ∧
    decode 0b10000000111111110110100110100101#32 = .ok (.wrBcpd 0xA5#8) := by decide
theorem test_decode_ocps : decode 0b01000000111111110110101000000000#32 = .ok .rdOcps ∧
    decode 0b10000000111111110110101010100101#32 = .ok (.wrOcps 0xA5#8) := by decide
theorem test_decode_ocpd : decode 0b01000000111111110110101100000000#32 = .ok .rdOcpd ∧
    decode 0b10000000111111110110101110100101#32 = .ok (.wrOcpd 0xA5#8) := by decide
theorem test_decode_vram : decode 0x408000_00#32 = .ok (.rdVram 0x8000#16) ∧ decode 0x409FFF00#32 = .ok (.rdVram 0x9FFF#16) ∧
    decode 0x808010FF#32 = .ok (.wrVram 0x8010#16 0xFF#8) := by decide
theorem test_decode_oam : decode 0x40FE9F00#32 = .ok (.rdOam 0xFE9F#16) ∧ decode 0x80FE0010#32 = .ok (.wrOam 0xFE00#16 0x10#8) := by
  decide
theorem test_decode_mem : decode 0x40FEA000#32 = .ok (.rdMem 0xFEA0#16) ∧ decode 0x40A00000#32 = .ok (.rdMem 0xA000#16) ∧
    decode 0x407FFF00#32 = .ok (.rdMem 0x7FFF#16) ∧ decode 0x80FF4C01#32 = .ok (.wrMem 0xFF4C#16 0x01#8) ∧
    decode 0x80C000AB#32 = .ok (.wrMem 0xC000#16 0xAB#8) := by decide
theorem test_decode_refused : decode 0xC0000000#32 = .error .reservedKind ∧ decode 0x01000000#32 = .error .nonzeroZeroField ∧
    decode 0x00000001#32 = .error .tickWithOperand ∧ decode 0x00FF4000#32 = .error .tickWithOperand ∧
    decode 0x40FF4001#32 = .error .readWithData := by decide
theorem test_encode : encode (.wrLcdc 0x91#8) = 0x80FF4091#32 ∧ encode (.rdHdma5) = 0x40FF5500#32 ∧
    encode (.wrVram 0x8010#16 0xFF#8) = 0x808010FF#32 ∧ encode .tick = 0x00000000#32 := by decide
theorem test_decodeTableWord : decodeTableWord 32 0x80FF4680 = some (.wrDma 0x80#8) ∧ decodeTableWord 32 0xC0000000 = none := by
  decide
/-- 30_encoding.md R115: `WRS a, v0 v1`, `FILL`, `TICKS`. -/
theorem test_trace : writesTrace 0xFF51#16 [0xC0#8, 0x0F#8] = [0x80FF51C0#32, 0x80FF520F#32] ∧
    fillTrace 0xFE00#16 2 0#8 = [0x80FE0000#32, 0x80FE0100#32] ∧ ticksTrace 2 = [0#32, 0#32] := by decide

/-! ### Formats (T10, T11, T12) -/

theorem test_decodeRow : decodeRow 0x0F#8 0x33#8 = [0#2, 0#2, 2#2, 2#2, 1#2, 1#2, 3#2, 3#2] ∧
    decodeRow 0x80#8 0x00#8 = [1#2, 0#2, 0#2, 0#2, 0#2, 0#2, 0#2, 0#2] ∧
    flipRow (decodeRow 0x0F#8 0x33#8) = [3#2, 3#2, 1#2, 1#2, 2#2, 2#2, 0#2, 0#2] ∧
    encodeRow [0#2, 2#2, 3#2, 3#2, 3#2, 3#2, 2#2, 0#2] = (0x3C#8, 0x7E#8) := by decide
/-- V1: rows of the source's tile. -/
theorem test_decodeTile : (decodeTile [0, 0, 0xFF, 0, 0, 0xFF, 0xFF, 0xFF, 0, 0, 0xFF, 0, 0, 0xFF, 0xFF, 0xFF]).map (·.head?) =
    [some 0#2, some 1#2, some 2#2, some 3#2, some 0#2, some 1#2, some 2#2, some 3#2] := by decide
theorem test_shade : shade 0x1B#8 0#2 = 3#2 ∧ shade 0x1B#8 3#2 = 0#2 ∧ shade 0xD0#8 1#2 = 0#2 ∧ shade 0xD0#8 2#2 = 1#2 ∧
    shade 0xD0#8 3#2 = 3#2 := by decide
theorem test_paletteColor : paletteColor 0x20#8 0x80#8 = 0x0020#15 ∧ paletteColor 0xFF#8 0x7F#8 = 0x7FFF#15 ∧
    paletteOffset 2#3 3#2 = 22 := by decide
theorem test_dma_operands : oamDmaSource 0xC1#8 = 0xC100#16 ∧ vdmaSource 0xC0#8 0x0F#8 = 0xC000#16 ∧
    vdmaDest 0x1F#8 0xFF#8 = 0x9FF0#16 ∧ vdmaSource 0x12#8 0x34#8 = 0x1230#16 ∧ vdmaDest 0xF6#8 0x78#8 = 0x9670#16 ∧
    vdmaBlocksOf 0x82#8 = 3 ∧ vdmaBlocksOf 0x7F#8 = 128 := by decide
theorem test_tileDataBase : tileDataBase true 0xFF#8 = 0x8FF0 ∧ tileDataBase false 0x80#8 = 0x8800 ∧
    tileDataBase false 0x7F#8 = 0x97F0 ∧ tileDataBase false 0#8 = 0x9000 := by decide
/-- T40. -/
theorem test_spriteMatches : spriteMatches 7#8 16#8 8 = true ∧ spriteMatches 8#8 16#8 8 = false ∧ spriteMatches 0#8 8#8 8 = false ∧
    spriteMatches 0#8 8#8 16 = true ∧ spriteMatches 143#8 159#8 8 = true ∧ spriteMatches 143#8 160#8 8 = false ∧
    spriteMatches 0#8 0#8 16 = false := by decide
theorem test_screenX : screenX 20#8 = 12 ∧ screenX 4#8 = 0 ∧ screenX 167#8 = 159 ∧ screenX 255#8 = 160 := by decide
/-- T48: line 3 of a tall sprite with tile 5, without and with the vertical flip. -/
theorem test_tallSprite : spriteRow 3#8 16#8 16 false = 3 ∧ spriteRow 3#8 16#8 16 true = 12 ∧
    spriteRowAddr (spriteTileRow 5#8 16 3).1 (spriteTileRow 5#8 16 3).2 = 0x8046 ∧
    spriteRowAddr (spriteTileRow 5#8 16 12).1 (spriteTileRow 5#8 16 12).2 = 0x8058 := by decide
/-- T45: the monochrome order with equal screen-X, for both tie-breaks. -/
theorem test_order : (orderSprites tMono [⟨0, 16, false⟩, ⟨1, 16, false⟩, ⟨2, 3, false⟩]).map (·.idx) = [2, 0, 1] ∧
    (orderSprites { tMono with oamTieBreak := .higherIndexFirst } [⟨0, 16, false⟩, ⟨1, 16, false⟩]).map (·.idx) = [1, 0] ∧
    (orderSprites tCgb [⟨0, 20, false⟩, ⟨1, 16, false⟩]).map (·.idx) = [0, 1] := by decide

/-! ### One step of each event (T80, T81) -/

theorem test_rdLcdc : tReads .rdLcdc (tAt tM .draw 0 0#8) 0x80#8 = true := by decide
theorem test_rdStat : tReads .rdStat (tAt tM .draw 0 0#8) 0x83#8 = true := by decide
theorem test_rdScy : tReads .rdScy ({ tM with reg := { tM.reg with scy := 0x12#8 } }) 0x12#8 = true := by decide
theorem test_rdScx : tReads .rdScx ({ tM with reg := { tM.reg with scx := 0x12#8 } }) 0x12#8 = true := by decide
theorem test_rdLy : tReads .rdLy (tAt tM .vBlank 0 144#8) 0x90#8 = true := by decide
theorem test_rdLyc : tReads .rdLyc ({ tM with reg := { tM.reg with lyc := 0x12#8 } }) 0x12#8 = true := by decide
theorem test_rdDma : tReads .rdDma ({ tM with reg := { tM.reg with dma := 0x80#8 } }) 0x80#8 = true := by decide
theorem test_rdBgp : tReads .rdBgp ({ tM with reg := { tM.reg with bgp := 0xE4#8 } }) 0xE4#8 = true := by decide
theorem test_rdObp0 : tReads .rdObp0 ({ tM with reg := { tM.reg with obp0 := 0xE4#8 } }) 0xE4#8 = true := by decide
theorem test_rdObp1 : tReads .rdObp1 ({ tM with reg := { tM.reg with obp1 := 0x1B#8 } }) 0x1B#8 = true := by decide
theorem test_rdWy : tReads .rdWy ({ tM with reg := { tM.reg with wy := 0x12#8 } }) 0x12#8 = true := by decide
theorem test_rdWx : tReads .rdWx ({ tM with reg := { tM.reg with wx := 0x12#8 } }) 0x12#8 = true := by decide
theorem test_rdVbk : tReads .rdVbk (tC) 0xFE#8 = true := by decide
theorem test_rdHdma1 : tReads .rdHdma1 (tC) 0xFF#8 = true := by decide
theorem test_rdHdma2 : tReads .rdHdma2 (tC) 0xFF#8 = true := by decide
theorem test_rdHdma3 : tReads .rdHdma3 (tC) 0xFF#8 = true := by decide
theorem test_rdHdma4 : tReads .rdHdma4 (tC) 0xFF#8 = true := by decide
theorem test_rdHdma5 : tReads .rdHdma5 (tVdma tC .hblank) 0x01#8 = true := by decide
theorem test_rdBcps : tReads .rdBcps ({ tC with reg := { tC.reg with bcpsIdx := 0x3F#6, bcpsInc := true } }) 0xFF#8 = true := by decide
theorem test_rdBcpd : tReads .rdBcpd ({ tC with reg := { tC.reg with bcpsIdx := 0x3F#6 }, mem := { tC.mem with bgpal := [(63, 0xBB#8)] } }) 0xBB#8 = true := by decide
theorem test_rdOcps : tReads .rdOcps (tC) 0x40#8 = true := by decide
theorem test_rdOcpd : tReads .rdOcpd ({ tC with mem := { tC.mem with objpal := [(0, 0xAA#8)] } }) 0xAA#8 = true := by decide
theorem test_rd_monochrome : tReads .rdVbk tM 0xFF#8 = true ∧ tReads .rdHdma5 tM 0xFF#8 = true ∧ tReads .rdBcps tM 0xFF#8 = true := by decide
theorem test_rdStat_displayOff : tReads .rdStat tM 0x80#8 = true := by decide
theorem test_rdVram : tReads (.rdVram 0x8000#16) (tBytes tC) 0x12#8 = true := by decide
theorem test_rdVram_draw : tReads (.rdVram 0x8000#16) (tAt (tBytes tM) .draw 0 0#8) 0xFF#8 = true := by decide
theorem test_rdOam : tReads (.rdOam 0xFE01#16) (tAt (tBytes tM) .hBlank 0 0#8) 13#8 = true := by decide
theorem test_rdOam_dma : tReads (.rdOam 0xFE00#16) (tOdma 5) 0xFF#8 = true := by decide
theorem test_rdMem : tReads (.rdMem 0xC000#16) (tAt (tBytes tM) .draw 0 0#8) 0xAB#8 = true := by decide
theorem test_wrLcdc_on : tNext (.wrLcdc 0x80#8) { tM with reg := { tM.reg with statIe := 0b1111#4 } }
    (fun t => t.out == { signals := { vblankIrq := false, statIrq := true, frameReady := false }, data := none } && t.ctl.coin && t.ctl.wyTrigger &&
      t.cnt.statIrq == 1 && t.statByte == 0xFE#8) = true := by decide
theorem test_wrLcdc_off : tNext (.wrLcdc 0x11#8) (tDraw tM 9)
    (fun t => t.ctl.mode == .oamSearch && t.ctl.modeDot == 0 && t.bg.queue == [] && t.lx == 0 && t.statByte == 0x80#8) = true := by decide
theorem test_wrStat : tNext (.wrStat 0xFF#8) tM (fun t => t.statByte == 0xF8#8) = true := by decide
theorem test_wrScy : tNext (.wrScy 0x12#8) tM (fun t => t.reg == { tM.reg with scy := 0x12#8 }) = true := by decide
theorem test_wrScx : tNext (.wrScx 0x12#8) tM (fun t => t.reg == { tM.reg with scx := 0x12#8 }) = true := by decide
theorem test_wrLy : tNext (.wrLy 0x55#8) tM (fun t => t.ctl.ly == 0#8) = true := by decide
theorem test_wrLyc : tNext (.wrLyc 0x12#8) tM (fun t => t.reg == { tM.reg with lyc := 0x12#8 }) = true := by decide
theorem test_wrDma : tNext (.wrDma 0xC1#8) (tOdma 600) (fun t => t.odma == { active := true, src := 0xC100#16, dots := 0 } && t.reg.dma == 0xC1#8) = true := by
  decide
theorem test_wrBgp : tNext (.wrBgp 0x12#8) tM (fun t => t.reg == { tM.reg with bgp := 0x12#8 }) = true := by decide
theorem test_wrObp0 : tNext (.wrObp0 0x12#8) tM (fun t => t.reg == { tM.reg with obp0 := 0x12#8 }) = true := by decide
theorem test_wrObp1 : tNext (.wrObp1 0x12#8) tM (fun t => t.reg == { tM.reg with obp1 := 0x12#8 }) = true := by decide
theorem test_wrWy : tNext (.wrWy 0x12#8) tM (fun t => t.reg == { tM.reg with wy := 0x12#8 }) = true := by decide
theorem test_wrWx : tNext (.wrWx 0x12#8) tM (fun t => t.reg == { tM.reg with wx := 0x12#8 }) = true := by decide
theorem test_wrVbk : tNext (.wrVbk 0xFF#8) tC (fun t => t.reg.vbk == 1#1) = true ∧ tNext (.wrVbk 0xFE#8) tC (fun t => t.reg.vbk == 0#1) = true := by
  decide
theorem test_wrHdma1 : tNext (.wrHdma1 0xC0#8) tC (fun t => t.reg == { tC.reg with hdma1 := 0xC0#8 }) = true := by decide
theorem test_wrHdma2 : tNext (.wrHdma2 0xC0#8) tC (fun t => t.reg == { tC.reg with hdma2 := 0xC0#8 }) = true := by decide
theorem test_wrHdma3 : tNext (.wrHdma3 0xC0#8) tC (fun t => t.reg == { tC.reg with hdma3 := 0xC0#8 }) = true := by decide
theorem test_wrHdma4 : tNext (.wrHdma4 0xC0#8) tC (fun t => t.reg == { tC.reg with hdma4 := 0xC0#8 }) = true := by decide
theorem test_wrHdma5_hblank : tNext (.wrHdma5 0x82#8) { tC with reg := { tC.reg with hdma1 := 0xC0#8, hdma3 := 0x88#8 } } (fun t =>
    t.vdma == { mode := .hblank, src := 0xC000#16, dst := 0x8800#16, blocks := 3, dots := 0, threshold := 0, len := 2#7 }) = true := by decide
/-- T74: the cancel keeps the remaining length. -/
theorem test_wrHdma5_cancel : tNext (.wrHdma5 0x00#8) (tVdma tC .hblank) (fun t => t.hdma5Byte == 0x81#8 && t.vdma.mode == .idle) = true := by decide
theorem test_wrBcps : tNext (.wrBcps 0xBE#8) tC (fun t => t.bcpsByte == 0xFE#8) = true := by decide
theorem test_wrBcpd : tNext (.wrBcpd 0xBB#8) { tC with reg := { tC.reg with bcpsIdx := 0x3F#6, bcpsInc := true } }
    (fun t => t.bcpsByte == 0xC0#8 && t.mem.bgpal == [(63, 0xBB#8)]) = true := by decide
theorem test_wrOcps : tNext (.wrOcps 0x3F#8) tC (fun t => t.ocpsByte == 0x7F#8) = true := by decide
theorem test_wrOcpd : tNext (.wrOcpd 0xCC#8) { tC with reg := { tC.reg with ocpsIdx := 0x3F#6 } }
    (fun t => t.ocpsByte == 0x7F#8 && t.mem.objpal == [(63, 0xCC#8)]) = true := by decide
theorem test_wr_monochrome : tNext (.wrVbk 1#8) tM (fun t => t.reg.vbk == 0#1) = true ∧
    tNext (.wrHdma5 0#8) tM (fun t => t.vdma.mode == .idle) = true := by decide
theorem test_wrVram : tNext (.wrVram 0x8000#16 0x99#8) { tBytes tC with reg := { tC.reg with vbk := 1#1 } }
    (fun t => t.mem.vram1 == [(0x8000, 0x99#8)] && t.mem.vram0 == [(0x8000, 0x12#8)]) = true := by decide
theorem test_wrVram_draw : tNext (.wrVram 0x8000#16 0x99#8) (tAt (tBytes tM) .draw 0 0#8) (fun t => t.mem.vram0 == [(0x8000, 0x12#8)]) = true := by
  decide
theorem test_wrOam : tNext (.wrOam 0xFE00#16 0x34#8) (tBytes tM) (fun t => t.oamRead 0 == 0x34#8 && t.oamRead 1 == 13#8) = true := by decide
theorem test_wrOam_search : tNext (.wrOam 0xFE00#16 0x34#8) (tAt (tBytes tM) .oamSearch 3 0#8) (fun t => t.oamRead 0 == 16#8) = true := by decide
theorem test_wrMem : tNext (.wrMem 0xC001#16 0x34#8) (tBytes tM) (fun t => t.mem.ext == [(0xC000, 0xAB#8), (0xC001, 0x34#8)]) = true := by decide

/-! ### TICK (T20, T21, T3, T61) -/

/-- T20 and T34: WX = 7 at line entry; the queue and the cursor start empty. -/
theorem test_tick_enterDraw : tNext .tick (tAt tM .hBlank 203 0#8) (fun t => t.ctl.mode == .oamSearch && t.ctl.ly == 1#8 && !t.ctl.coin) = true := by
  decide
theorem test_tick_firstPop : tNext .tick (tDraw tM 9) (fun t => t.lx == 6 && t.bg.queue.length == 8 && t.mem.fb == [(5, 0#15)]) = true := by decide
/-- T50: `obj_en` and `bg_prio` set, BGP 0x1B, a sprite behind the background. -/
theorem test_resolve : State.resolve { tM with reg := { tM.reg with lcdc := 0x83#8, bgp := 0x1B#8, obp0 := 0xE4#8 } }
      { color := 2#2, pal := 0#3, isSprite := false, bgOverObj := false, bgToOam := false, key := 0 }
      (some { color := 1#2, pal := 0#3, isSprite := true, bgOverObj := true, bgToOam := false, key := 0 }) = 1#15 ∧
    State.resolve { tM with reg := { tM.reg with lcdc := 0x82#8, bgp := 0x1B#8, obp0 := 0xE4#8 } }
      { color := 2#2, pal := 0#3, isSprite := false, bgOverObj := false, bgToOam := false, key := 0 }
      (some { color := 3#2, pal := 0#3, isSprite := true, bgOverObj := true, bgToOam := false, key := 0 }) = 3#15 := by decide

/-! ### States that meet the hypotheses of the statements -/

theorem witness_DecodeUndoesEncode :
    Instr.wf (.rdVram 0x8000#16) = true ∧ Instr.wf (.wrVram 0x9FFF#16 0xFF#8) = true ∧ Instr.wf (.rdOam 0xFE9F#16) = true ∧
      Instr.wf (.wrMem 0xFEA0#16 0#8) = true ∧ Instr.wf (.wrOcpd 0xFF#8) = true := by decide
theorem witness_EncodeUndoesDecode :
    decode 0x809FFFFF#32 = .ok (.wrVram 0x9FFF#16 0xFF#8) ∧ decode 0x40FFFF00#32 = .ok (.rdMem 0xFFFF#16) := by decide
theorem witness_RefusedWordsExactly :
    decode 0xFFFFFFFF#32 = .error .reservedKind ∧ decode 0x3F000000#32 = .error .nonzeroZeroField ∧
      decode 0x00000100#32 = .error .tickWithOperand ∧ decode 0x40FF40FF#32 = .error .readWithData := by decide
theorem witness_StepRunsDecodedEvent :
    (∃ (s : State) (w : EventWord) (rest : List EventWord) (i : Instr), s.events = w :: rest ∧ decode w = .ok i) ∧
      tM.events = [] := 
  ⟨⟨{ tM with events := [0x00000000#32, 0x80FF4091#32] }, _, _, .tick, rfl, by decide⟩, rfl⟩
theorem witness_HostReadIsGatedBusRead :
    (tAt tM .draw 0 0#8).gated 0x8000#16 = true ∧ (tAt tM .draw 0 0#8).gated 0xFF40#16 = false := by decide
theorem witness_HostWriteIsGatedBusWrite :
    (tAt tM .oamSearch 0 0#8).gated 0xFE9F#16 = true ∧ (tAt tM .oamSearch 0 0#8).gated 0x8000#16 = false := by decide
theorem witness_MemoryReads :
    Addr.isVram 0x9FFF#16 = true ∧ Addr.isOam 0xFE00#16 = true := by decide
theorem witness_MemoryWrites :
    Addr.isVram 0x8000#16 = true ∧ Addr.isOam 0xFE9F#16 = true := by decide
theorem witness_StoredRegisterWrites :
    (0x91#8).getLsbD 7 = (tAt tM .draw 0 0#8).reg.lcdc.getLsbD 7 ∧ (0x7F#8).getLsbD 7 = tM.reg.lcdc.getLsbD 7 := by decide
theorem witness_StatWriteBits :
    (tAt tM .vBlank 0 144#8).reg.lcdc.getLsbD 7 = true ∧ (tAt tM .vBlank 0 144#8).ctl.mode = .vBlank ∧ (tAt tM .vBlank 0 144#8).ctl.coin = false := by decide
theorem witness_DisplayOffResets :
    (tDraw tM 9).reg.lcdc.getLsbD 7 = true ∧ (0x7F#8).getLsbD 7 = false := by decide
theorem witness_DisplayOnEntersOamSearch :
    tM.reg.lcdc.getLsbD 7 = false ∧ (0x80#8).getLsbD 7 = true := by decide
theorem witness_ColorRegisterWrites :
    tC.cfg.cgbMode = true := by decide
theorem witness_PaletteDataWrites :
    tC.cfg.cgbMode = true ∧ ({ tC with reg := { tC.reg with bcpsIdx := 63#6, bcpsInc := true } } : State).cfg.cgbMode = true := by decide
theorem witness_Hdma5WriteControlsHblankTransfer :
    (tVdma tC .general).cfg.cgbMode = true ∧ (tVdma tC .general).vdma.mode = .general ∧ (tVdma tC .hblank).vdma.mode = .hblank ∧
      (0x7F#8).getLsbD 7 = false ∧ tC.vdma.mode ≠ .general ∧ (0x80#8).getLsbD 7 = true := by decide
theorem witness_GeneralTransferCopiesAtOnce :
    tC.cfg.cgbMode = true ∧ tC.vdma.mode = .idle ∧ (0x00#8).getLsbD 7 = false ∧ (0x7F#8).getLsbD 7 = false ∧
      (16 < 32 ∧ vdmaCell 0x10 0 = (BitVec.ofNat 16 (0x8000 + 16)).toNat) := by decide
theorem witness_TickCompletesOrOverruns :
    ¬((tAt tM .draw 374 0#8).reg.lcdc.getLsbD 7 = true ∧ (tAt tM .draw 374 0#8).ctl.mode = .draw ∧ 375 ≤ (tAt tM .draw 374 0#8).ctl.modeDot) ∧
      (tAt tM .draw 375 0#8).reg.lcdc.getLsbD 7 = true ∧ (tAt tM .draw 375 0#8).ctl.mode = .draw ∧ 375 ≤ (tAt tM .draw 375 0#8).ctl.modeDot := by decide
theorem witness_TickFrame :
    (∃ t, exec .tick (tDraw tM 9) = .next t) ∧ (tOdma 639).odma.active = true ∧ (tOdma 639).odma.dots = 639 ∧ (tDraw tM 9).odma.active = false ∧
      tM.vdma.mode = .idle ∧ (tVdma tC .hblank).vdma.mode = .hblank := ⟨⟨_, rfl⟩, by decide⟩
theorem witness_TickWithDisplayOff :
    tM.reg.lcdc.getLsbD 7 = false ∧ tM.odma.active = false ∧ tM.vdma.mode ≠ .general := by decide
theorem witness_OamSearchDots :
    (tAt tM .oamSearch 78 0#8).lcdEn = true ∧ (tAt tM .oamSearch 78 0#8).ctl.mode = .oamSearch ∧ (tAt tM .oamSearch 78 0#8).ctl.modeDot + 1 ≠ 80 ∧
      (tAt tM .oamSearch 79 143#8).ctl.modeDot + 1 = 80 := by decide
theorem witness_LineSpritesFoundAndOrdered :
    (∃ onLine : Nat → Prop, ∀ n, onLine n ↔ n < 40 ∧ ((tBytes tM).oamRead (4 * n)).toNat ≤ (tBytes tM).ctl.ly.toNat + 16 ∧
      (tBytes tM).ctl.ly.toNat + 16 < ((tBytes tM).oamRead (4 * n)).toNat + (if (tBytes tM).reg.lcdc.getLsbD 2 then 16 else 8)) ∧
    tM.cfg.cgbMode = false ∧ tM.cfg.oamTieBreak = .lowerIndexFirst ∧ tC.cfg.cgbMode = true ∧
    (State.resetWith { tMono with oamTieBreak := .higherIndexFirst }).cfg.oamTieBreak = .higherIndexFirst := ⟨⟨_, fun _ => Iff.rfl⟩, by decide⟩
theorem witness_LineSprites_found :
    0 < 40 ∧ ((tBytes tM).oamRead (4 * 0)).toNat ≤ (tBytes tM).ctl.ly.toNat + 16 ∧
      (tBytes tM).ctl.ly.toNat + 16 < ((tBytes tM).oamRead (4 * 0)).toNat + 8 := by decide
theorem witness_DrawDotOrder :
    (tDraw tM 9).lcdEn = true ∧ (tDraw tM 9).ctl.mode = .draw ∧ (tDraw tM 9).ctl.modeDot < 375 ∧ (tDraw tM 9).lx ≠ 160 := by decide
theorem witness_DrawEndsAtColumn160 :
    ({ tAt tM .draw 374 0#8 with lx := 160 } : State).lcdEn = true ∧ ({ tAt tM .draw 374 0#8 with lx := 160 } : State).ctl.mode = .draw ∧
      ({ tAt tM .draw 374 0#8 with lx := 160 } : State).ctl.modeDot < 375 ∧ ({ tAt tM .draw 374 0#8 with lx := 160 } : State).lx = 160 := by decide
/-- An hblank transfer due at H_BLANK dot `dot` of line `ly`, from `src` to 0x9FF1. -/
def tHblank (src : Addr) (dot : Nat) (ly : Byte) : State :=
  let t := tAt (tVdma tC .hblank) .hBlank dot ly
  { t with vdma := { t.vdma with src := src, dst := 0x9FF1#16 } }
theorem witness_HblankTransferCopiesOneBlock :
    (tHblank 0xC000#16 0 0#8).lcdEn = true ∧ (tHblank 0xC000#16 0 0#8).ctl.mode = .hBlank ∧
      (tHblank 0xC000#16 0 0#8).vdma.mode = .hblank ∧ (tHblank 0xC000#16 0 0#8).ctl.hblankCopied = false ∧
      (tHblank 0xC000#16 202 0#8).ctl.modeDot + 1 ≠ (tHblank 0xC000#16 202 0#8).ctl.hblankLen ∧
      (tHblank 0xC000#16 203 142#8).ctl.modeDot + 1 = (tHblank 0xC000#16 203 142#8).ctl.hblankLen ∧
      (tHblank 0xC000#16 203 143#8).ctl.ly = 143#8 ∧
      1 < (tHblank 0xC000#16 0 0#8).vdma.blocks ∧
      ({ tHblank 0xC000#16 0 0#8 with vdma := { (tHblank 0xC000#16 0 0#8).vdma with blocks := 1 } } : State).vdma.blocks ≤ 1 := by decide
/-- The source addresses of a copy: the collaborator's, `oam`, a register, `vram` not yet and already written by the copy. -/
theorem witness_CopiedBytes :
    busTarget (BitVec.ofNat 16 (0xC000 + 15)) = .mem ∧ busTarget (BitVec.ofNat 16 (0xFE90 + 15)) = .oam ∧
      busTarget (BitVec.ofNat 16 (0xFF40 + 15)) = .vbk ∧
      (busTarget (BitVec.ofNat 16 (0x9FF0 + 0)) = .vram ∧ ∀ i < 0, vdmaCell 0x9FF1 i ≠ (BitVec.ofNat 16 (0x9FF0 + 0)).toNat) ∧
      vdmaCell 0x9FF1 0 = (BitVec.ofNat 16 (0x9FF0 + 1)).toNat ∧ vdmaCell 0x9FF1 15 = 0x8000 := by decide
theorem witness_HBlankEndsLine :
    (tAt tM .hBlank 202 0#8).lcdEn = true ∧ (tAt tM .hBlank 202 0#8).ctl.mode = .hBlank ∧ (tAt tM .hBlank 202 0#8).ctl.modeDot + 1 ≠ (tAt tM .hBlank 202 0#8).ctl.hblankLen ∧
      (tAt tM .hBlank 203 142#8).ctl.modeDot + 1 = (tAt tM .hBlank 203 142#8).ctl.hblankLen ∧ (tAt tM .hBlank 203 142#8).ctl.ly ≠ 143#8 := by decide
theorem witness_VBlankEntryRaisesSignals :
    (tAt tM .hBlank 203 143#8).lcdEn = true ∧ (tAt tM .hBlank 203 143#8).ctl.mode = .hBlank ∧ (tAt tM .hBlank 203 143#8).ctl.modeDot + 1 = (tAt tM .hBlank 203 143#8).ctl.hblankLen ∧
      (tAt tM .hBlank 203 143#8).ctl.ly = 143#8 ∧ tNext .tick (tAt tM .hBlank 203 143#8) (fun t => t.out.signals.frameReady) = true := by decide
theorem witness_VBlankDots :
    (tAt tM .vBlank 4559 153#8).lcdEn = true ∧ (tAt tM .vBlank 4559 153#8).ctl.mode = .vBlank ∧ (tAt tM .vBlank 4559 153#8).ctl.modeDot + 1 = 4560 ∧
      (tAt tM .vBlank 455 144#8).ctl.modeDot + 1 ≠ 4560 := by decide
theorem witness_VBlankDots_lineInv :
    (tAt tM .vBlank 455 144#8).lineInv := by
  unfold State.lineInv; refine ⟨?_, by decide⟩; show _ ∧ _; decide
theorem witness_FetchStagesTakeTwoDots :
    ∀ st ∈ [FetchStage.getTile, .getTileDataLow, .getTileDataHigh, .sleep], ∀ n ∈ [0, 1], ∃ s : State, s.entersWindow = false ∧ s.bg.stall = 0 ∧
      s.bg.stage = st ∧ s.bg.stageDot = n ∧ 8 < s.bg.queue.length := by
  intro st _ n _
  exact ⟨{ tDraw tM 9 with bg := { (tDraw tM 9).bg with stage := st, stageDot := n } },
    show (tDraw tM 9).entersWindow = false by decide, show (tDraw tM 9).bg.stall = 0 by decide, rfl, rfl,
    show 8 < (tDraw tM 9).bg.queue.length by decide⟩
/-- The fetcher waits with room in the queue and a tile of zeros. -/
def tPush : State := { tDraw tM 8 with bg := { (tDraw tM 8).bg with stage := .sleep } }
theorem witness_PushEnqueuesTileRow :
    (tPush.entersWindow = false ∧ tPush.bg.stall = 0 ∧ tPush.bg.stage = .sleep ∧ tPush.bg.queue.length ≤ 8 ∧ tPush.bg.tileBytes.length = 16) ∧
      0 = (if tPush.bg.inWindow then tPush.ctl.winLine.toNat % 8 else (tPush.ctl.ly.toNat + tPush.reg.scy.toNat) % 256 % 8) ∧
      ∃ px : List Pixel, px.length = 8 ∧ ∀ i < 8, ∀ r c, (r = if tPush.cfg.cgbMode && tPush.bg.tileAttr.getLsbD 6 then 7 - 0 else 0) →
        (c = if tPush.cfg.cgbMode && tPush.bg.tileAttr.getLsbD 5 then 7 - i else i) →
        ∃ p lo hi, px[i]? = some p ∧ tPush.bg.tileBytes[2 * r]? = some lo ∧ tPush.bg.tileBytes[2 * r + 1]? = some hi ∧
          p.color.toNat = 2 * (hi.toNat / 2 ^ (7 - c) % 2) + lo.toNat / 2 ^ (7 - c) % 2 ∧
          p.pal.toNat = (if tPush.cfg.cgbMode then tPush.bg.tileAttr.toNat % 8 else 0) ∧ p.isSprite = false ∧ p.bgOverObj = false ∧
          p.bgToOam = (tPush.cfg.cgbMode && tPush.bg.tileAttr.getLsbD 7) ∧ p.key = 0 := by
  refine ⟨by decide, by decide, List.replicate 8 (State.bgPixel tPush 0#2), by decide, ?_⟩
  intro i hi r c hr hc
  subst hr hc
  refine ⟨State.bgPixel tPush 0#2, 0#8, 0#8, by rw [List.getElem?_replicate_of_lt hi], by decide, by decide, ?_, by decide, rfl, rfl, by decide, rfl⟩
  simp [State.bgPixel]
theorem witness_WindowEntryRestartsFetcher :
    ∃ s : State, s.bg.inWindow = false ∧ s.reg.lcdc.getLsbD 5 = true ∧ s.ctl.wyTrigger = true ∧ s.ctl.wxTrigger = true ∧ s.bg.stall = 0 ∧
      s.lx = 0 ∧ s.reg.scx.toNat % 8 ≠ 0 := 
  ⟨{ tM with reg := { tM.reg with lcdc := 0xA0#8, scx := 5#8 }, ctl := { tM.ctl with wyTrigger := true, wxTrigger := true } }, by decide⟩
theorem witness_SpriteStageDots :
    ∀ st ∈ [SpriteStage.stage2, .stage3, .stage4, .stage5], (tSprite tM st).lcdEn = true ∧ (tSprite tM st).ctl.mode = .draw ∧ (tSprite tM st).ctl.modeDot < 375 ∧
      (tSprite tM st).lx ≠ 160 ∧ (tSprite tM st).reg.lcdc.getLsbD 1 = true ∧ (tSprite tM st).sp.stage ≠ .idle ∧ (tSprite tM st).sp.stage ≠ .stage6 ∧
      (tSprite tM st).sp.stage ≠ .stage1 ∧ (tSprite tM st).sp.pre = 0 := by decide
theorem witness_SpriteStageDots_extra :
    ∃ s : State, s.drawing ∧ s.reg.lcdc.getLsbD 1 = true ∧ s.sp.stage = .stage1 ∧ 0 < s.sp.pre := 
  ⟨{ tSprite tM .stage1 with sp := { (tSprite tM .stage1).sp with pre := 7 } }, by unfold State.drawing; decide⟩
theorem witness_SpriteAbortInMonochrome :
    ∃ s u : State, (s.drawing ∧ s.cfg.cgbMode = false ∧ s.reg.lcdc.getLsbD 1 = false ∧ s.sp.stage ≠ .idle ∧ s.sp.stage ≠ .stage6) ∧
      (u.drawing ∧ u.cfg.cgbMode = false ∧ u.reg.lcdc.getLsbD 1 = false ∧ u.sp.stage = .idle ∧
        u.sp.line[0]? = some { idx := 0, sx := u.lx, done := false }) := 
  ⟨{ tSprite tM .stage3 with reg := { tM.reg with lcdc := 0x80#8 } }, { tSprite tM .idle with reg := { tM.reg with lcdc := 0x80#8 } },
    by unfold State.drawing; decide⟩
theorem witness_SpriteStage1WaitsForQueue :
    ∃ s u : State, (s.drawing ∧ s.reg.lcdc.getLsbD 1 = true ∧ s.sp.stage = .stage1 ∧ s.sp.pre = 0 ∧ s.bg.queue ≠ []) ∧
      (u.drawing ∧ u.reg.lcdc.getLsbD 1 = true ∧ u.sp.stage = .stage1 ∧ u.sp.pre = 0 ∧ u.bg.queue = [] ∧ 5 ≤ u.sp.s1Dots + 1) := 
  ⟨tSprite tM .stage1, { tSprite tM .stage1 with bg := tM.bg, sp := { (tSprite tM .stage1).sp with s1Dots := 4 } }, by unfold State.drawing; decide⟩
theorem witness_SpriteTriggerAtCursor :
    ∃ s : State, s.drawing ∧ s.sp.stage = .idle ∧ s.reg.lcdc.getLsbD 1 = true ∧ s.sp.line[0]? = some { idx := 0, sx := s.lx, done := false } := 
  ⟨tSprite tM .idle, by unfold State.drawing; decide⟩
theorem witness_SpriteTrigger_emptyQueue :
    ∃ s : State, s.drawing ∧ s.sp.stage = .idle ∧ s.reg.lcdc.getLsbD 1 = true ∧ s.sp.line[0]? = some { idx := 0, sx := s.lx, done := false } ∧
      s.bg.queue = [] :=
  ⟨{ tSprite tM .idle with bg := tM.bg }, by unfold State.drawing; decide⟩
theorem witness_SpriteTrigger_column0 :
    ∃ s : State, s.drawing ∧ s.sp.stage = .idle ∧ s.reg.lcdc.getLsbD 1 = true ∧ s.sp.line[0]? = some { idx := 0, sx := s.lx, done := false } ∧
      s.lx = 0 ∧ s.reg.scx.toNat % 8 ≠ 0 ∧ s.sp.extraDone = false := 
  ⟨{ tSprite tM .idle with reg := { tM.reg with lcdc := 0x82#8, scx := 7#8 }, lx := 0, sp := { tM.sp with line := [⟨0, 0, false⟩] } },
    by unfold State.drawing; decide⟩
theorem witness_SpriteTrigger_none :
    ∃ s : State, s.drawing ∧ s.sp.stage = .idle ∧ ∀ e ∈ s.sp.line, e.done = true ∨ e.sx ≠ s.lx := 
  ⟨tDraw tM 9, by unfold State.drawing; decide⟩
theorem witness_DeliveryTakesNoDot :
    (tSprite tM .stage6).drawing ∧ (tSprite tM .stage6).sp.stage = .stage6 := by unfold State.drawing; decide
theorem witness_DeliveryMergesEightPixels :
    ∃ (s : State) (e : LineSprite) (y x tile attr : Byte) (h r0 r : Nat) (lo hi : Byte) (base : Nat), s.sp.line[s.sp.cur]? = some e ∧ s.sp.queue.length ≤ 8 ∧
      y = s.oamRead (4 * e.idx) ∧ x = s.oamRead (4 * e.idx + 1) ∧ tile = s.oamRead (4 * e.idx + 2) ∧ attr = s.oamRead (4 * e.idx + 3) ∧
      h = (if s.reg.lcdc.getLsbD 2 then 16 else 8) ∧ r0 = (s.ctl.ly.toNat + 16 + (256 - y.toNat)) % 256 % h ∧
      r = (if attr.getLsbD 6 then h - 1 - r0 else r0) ∧
      base = (if h = 16 then 0x8000 + 16 * (tile.toNat / 2 * 2 + r / 8) + 2 * (r % 8) else 0x8000 + 16 * tile.toNat + 2 * r) ∧
      lo = s.peek (if s.cfg.cgbMode && attr.getLsbD 3 then .vram1 else .vram0) base ∧
      hi = s.peek (if s.cfg.cgbMode && attr.getLsbD 3 then .vram1 else .vram0) (base + 1) := 
  ⟨tBytes (tSprite tM .stage6), _, _, _, _, _, _, _, _, _, _, _, rfl, by decide, rfl, rfl, rfl, rfl, rfl, rfl, rfl, rfl, rfl, rfl⟩
theorem witness_MixerPopsAboveEight :
    (tDraw tM 8).bg.queue.length ≤ 8 ∧ 8 < (tDraw tM 9).bg.queue.length := by decide
theorem witness_ResolutionRules :
    tM.reg.lcdc.getLsbD 1 = false ∧ (tSprite tC .idle).reg.lcdc.getLsbD 1 = true ∧ (tSprite tC .idle).cfg.cgbMode = true ∧
      (tSprite tM .idle).reg.lcdc.getLsbD 0 = false ∧ ¬((tSprite tM .idle).cfg.cgbMode = true) ∧
      ({ tM with reg := { tM.reg with lcdc := 0x83#8 } } : State).reg.lcdc.getLsbD 0 = true ∧ ({ tM with reg := { tM.reg with lcdc := 0x83#8 } } : State).reg.lcdc.getLsbD 1 = true := by decide
theorem witness_PaletteLookup :
    tM.cfg.cgbMode = false ∧ tC.cfg.cgbMode = true ∧ paletteOffset 7#3 3#2 = 62 := by decide
theorem witness_TileRowRoundTrip :
    [0#2, 2#2, 3#2, 3#2, 3#2, 3#2, 2#2, 0#2].length = 8 ∧ 7 < 8 ∧ [0#2, 2#2, 3#2, 3#2, 3#2, 3#2, 2#2, 0#2][7]? = some 0#2 ∧
      (List.replicate 16 (0#8)).length = 16 := by decide
theorem witness_FetchAddressesInRange :
    ∃ r, r = spriteRow 3#8 16#8 16 true ∧ 16 = (if true then 16 else 8) := ⟨_, rfl, rfl⟩
theorem witness_OamDmaCopiesOnDot640 :
    (tOdma 639).odma.active = true ∧ ¬((tOdma 639).lcdEn = true ∧ (tOdma 639).ctl.mode = .draw ∧ 375 ≤ (tOdma 639).ctl.modeDot) ∧
      (tOdma 639).odma.dots + 1 = 640 ∧ (tOdma 639).odma.src.toNat % 256 = 0 ∧ (tOdma 638).odma.dots + 1 ≠ 640 := by decide
theorem witness_GeneralTransferCountsDots :
    (tVdma tC .general).vdma.mode = .general ∧ ¬((tVdma tC .general).lcdEn = true ∧ (tVdma tC .general).ctl.mode = .draw ∧ 375 ≤ (tVdma tC .general).ctl.modeDot) ∧
      (tVdma tC .general).vdma.threshold ≤ (tVdma tC .general).vdma.dots + 2 ∧ (tVdma tC .general).vdma.dots + 1 < (tVdma tC .general).vdma.threshold := by decide
theorem witness_EventsKeepTheirBounds :
    (∃ t, exec (.wrVbk 1#8) tC = .next t ∧ t.reg.vbk ≠ tC.reg.vbk) ∧ (∃ t, exec .tick (tDraw tM 9) = .next t ∧ t.mem.fb ≠ (tDraw tM 9).mem.fb) ∧
      (∃ t, exec (.wrLcdc 0x80#8) { tM with reg := { tM.reg with statIe := 15#4 } } = .next t ∧ t.out.signals ≠ noSignals) := 
  ⟨⟨_, rfl, by decide⟩, ⟨_, rfl, by decide⟩, ⟨_, rfl, by decide⟩⟩
theorem witness_FramebufferNeverRead :
    (∃ t, exec .tick (tDraw tM 9) = .next t) ∧ exec .tick (tAt tM .draw 375 0#8) = .fault .drawOverrun := ⟨⟨_, rfl⟩, rfl⟩

/-- For the statements that every step keeps an invariant, and for DrawNeverOverruns (O54 to O58): a state in DRAW, one dot before its first pixel, meets every invariant. -/
def tInv : State :=
  { tDraw tM 8 with
    lx := 0
    events := [0#32]
    ctl := { (tDraw tM 8).ctl with modeDot := 11 }
    bg := { (tDraw tM 8).bg with stage := .getTileDataHigh, stageDot := 1, fetchX := 1 } }

theorem tInv_memInv : tInv.memInv := State.resetWith_memInv tMono
theorem tInv_fbInv : tInv.fbInv := State.resetWith_fbInv tMono
theorem witness_inv :
    tInv.inv ∧ tInv.lcdEn = true ∧ tInv.ctl.mode = .draw ∧ ∃ t, step tInv = .next t := by
  refine ⟨⟨tInv_memInv, tInv_fbInv, ?_, ?_, ?_, ?_, ?_, ?_⟩, by decide, by decide, ⟨_, rfl⟩⟩
  · unfold State.lineInv; refine ⟨?_, by decide⟩; show _ ∧ _; decide
  · unfold State.queueInv; decide
  · unfold State.spriteInv; decide
  · unfold State.dmaInv; decide
  · unfold State.monoInv; decide
  · unfold State.drawInv; decide
theorem witness_DrawNeverOverruns_hBlank :
    (tAt tM .hBlank 0 0#8).ctl.mode = .hBlank ∧ 172 ≤ (tAt tM .hBlank 0 0#8).ctl.drawLen := by decide
theorem witness_MonochromeIgnoresColorRegisters :
    tM.cfg.cgbMode = false ∧ tInv.monoInv ∧ ∃ t, step tInv = .next t := ⟨by decide, by unfold State.monoInv; decide, ⟨_, rfl⟩⟩
theorem witness_FrameDotAdvances :
    (tAt tM .hBlank 203 143#8).lcdEn = true ∧ (tAt tM .hBlank 203 143#8).frameDot = 456 * 143 + 80 + 172 + 203 ∧
      ∃ t, exec .tick (tAt tM .hBlank 203 143#8) = .next t := ⟨by decide, by decide, ⟨_, rfl⟩⟩
theorem witness_FrameDotAdvances_lineInv :
    (tAt tM .hBlank 203 143#8).lineInv := by
  unfold State.lineInv; refine ⟨?_, by decide⟩; show _ ∧ _; decide
theorem witness_OneVblankPerFrame :
    (tAt tM .hBlank 203 143#8).frameDot = 65663 ∧ (tAt tM .hBlank 203 143#8).lcdEn = true := by decide

/-! ### The interface -/

/-- `withFetchWord` makes a word the first event after reset (log entry 1). -/
theorem test_withFetchWord : (match step (State.reset.withFetchWord 32 0x80FF4691) with
    | .next t => t.odma.active && t.events == [] && t.reg.dma == 0x91#8
    | .fault _ => false
    | .refused _ => false) = true := by decide

end Sys2Proof.Machine
end

section
/-! PROOFS. Tile rows and tiles (30_encoding.md R104). A row is read by its columns (`decodeRow_getElem?`), a plane byte by
its bits (`encodePlane_getLsbD`); the two round trips compare them column by column and bit by bit. -/

namespace Sys2Proof.Machine

/-! ### Decoding and flipping -/

@[simp] theorem decodeRow_length (lo hi : Byte) : (decodeRow lo hi).length = 8 := by simp [decodeRow]

theorem decodeRow_getElem? (lo hi : Byte) {i : Nat} (hi8 : i < 8) :
    (decodeRow lo hi)[i]? = some (rowPixel lo hi i) := by simp [decodeRow, hi8]

theorem rowPixel_toNat (lo hi : Byte) (i : Nat) :
    (rowPixel lo hi i).toNat = 2 * (hi.toNat / 2 ^ (7 - i) % 2) + lo.toNat / 2 ^ (7 - i) % 2 := by
  have append_bits : ∀ a b : Bool, (BitVec.ofBool a ++ BitVec.ofBool b).toNat = 2 * a.toNat + b.toNat := by decide
  rw [rowPixel, append_bits, BitVec.getLsbD, BitVec.getLsbD, Nat.toNat_testBit, Nat.toNat_testBit]

theorem rowPixel_getLsbD_zero (lo hi : Byte) (i : Nat) : (rowPixel lo hi i).getLsbD 0 = lo.getLsbD (7 - i) :=
  BitVec.getLsbD_append.trans (by simp)

theorem rowPixel_getLsbD_one (lo hi : Byte) (i : Nat) : (rowPixel lo hi i).getLsbD 1 = hi.getLsbD (7 - i) :=
  BitVec.getLsbD_append.trans (by simp)

/-- Both flips of R104 reverse a list of 8: lane `i` of a row and row `i` of a tile end up at `7 - i`. -/
theorem reverse_getElem?_seven_sub {α : Type} {l : List α} (hl : l.length = 8) {i : Nat} (hi : i < 8) :
    l.reverse[7 - i]? = l[i]? :=
  List.getElem?_reverse' (by omega)

@[simp] theorem decodeTile_length (t : List Byte) : (decodeTile t).length = 8 := by simp [decodeTile]

theorem decodeTile_getElem? (t : List Byte) {r : Nat} (hr : r < 8) :
    (decodeTile t)[r]? = some (decodeRow (t.getD (2 * r) 0) (t.getD (2 * r + 1) 0)) := by simp [decodeTile, hr]

/-! ### Encoding -/

theorem encodePlane_concat (b : Nat) (row : List ColorIndex) (c : ColorIndex) :
    encodePlane b (row ++ [c]) = (encodePlane b row).shiftConcat (c.getLsbD b) := by simp [encodePlane]

/-- Bit `k` of a plane comes from the `k`th color from the right. -/
theorem encodePlane_getLsbD_of_reverse (b : Nat) (row : List ColorIndex) (c : ColorIndex) (k : Nat) (hk : k < 8)
    (hc : row.reverse[k]? = some c) : (encodePlane b row).getLsbD k = c.getLsbD b := by
  induction row using List.reverseRecOn generalizing k with
  | nil => simp at hc
  | append_singleton row last ih =>
    rw [encodePlane_concat, BitVec.getLsbD_shiftConcat]
    cases k with
    | zero => simp_all
    | succ k =>
      have rest : (encodePlane b row).getLsbD k = c.getLsbD b := ih k (by omega) (by simpa using hc)
      simp [hk, rest]

theorem encodePlane_getLsbD (b : Nat) {row : List ColorIndex} (hrow : row.length = 8) {i : Nat} (hi : i < 8)
    {c : ColorIndex} (hc : row[i]? = some c) : (encodePlane b row).getLsbD (7 - i) = c.getLsbD b :=
  encodePlane_getLsbD_of_reverse b row c (7 - i) (by omega) ((reverse_getElem?_seven_sub hrow hi).trans hc)

/-- A byte is the plane of a decoded row as soon as its bit `7 - i` is the plane's bit of each pixel. -/
theorem encodePlane_decodeRow {b : Nat} {lo hi p : Byte}
    (hp : ∀ i, (rowPixel lo hi i).getLsbD b = p.getLsbD (7 - i)) : encodePlane b (decodeRow lo hi) = p := by
  refine BitVec.eq_of_getLsbD_eq fun k hk => ?_
  have column : 7 - (7 - k) = k := by omega
  have bit := encodePlane_getLsbD b (decodeRow_length lo hi) (i := 7 - k) (by omega) (decodeRow_getElem? lo hi (by omega))
  rwa [hp, column] at bit

theorem encodeRow_decodeRow (lo hi : Byte) : encodeRow (decodeRow lo hi) = (lo, hi) :=
  Prod.ext (encodePlane_decodeRow (rowPixel_getLsbD_zero lo hi)) (encodePlane_decodeRow (rowPixel_getLsbD_one lo hi))

theorem rowPixel_encodeRow {row : List ColorIndex} (hrow : row.length = 8) {i : Nat} (hi : i < 8)
    {c : ColorIndex} (hc : row[i]? = some c) : rowPixel (encodeRow row).1 (encodeRow row).2 i = c := by
  refine BitVec.eq_of_getLsbD_eq fun b hb => ?_
  obtain rfl | rfl : b = 0 ∨ b = 1 := by omega
  · exact (rowPixel_getLsbD_zero _ _ i).trans (encodePlane_getLsbD 0 hrow hi hc)
  · exact (rowPixel_getLsbD_one _ _ i).trans (encodePlane_getLsbD 1 hrow hi hc)

theorem decodeRow_encodeRow {row : List ColorIndex} (hrow : row.length = 8) :
    decodeRow (encodeRow row).1 (encodeRow row).2 = row := by
  refine List.ext_getElem? fun i => ?_
  obtain hi | hi := Nat.lt_or_ge i 8
  · have hc : row[i]? = some (row[i]'(hrow ▸ hi)) := List.getElem?_eq_getElem _
    rw [decodeRow_getElem? _ _ hi, rowPixel_encodeRow hrow hi hc, hc]
  · rw [List.getElem?_eq_none (by rwa [decodeRow_length]), List.getElem?_eq_none (by rwa [hrow])]

/-! ### The obligation -/

/-- Settles O48 (R104): rows column by column, planes bit by bit, both flips by `reverse_getElem?_seven_sub`. -/
theorem tileRowRoundTrip : Obligations.TileRowRoundTrip := by
  unfold Obligations.TileRowRoundTrip
  refine ⟨fun lo hi i hi8 => ?_, fun lo hi => ⟨decodeRow_length lo hi, encodeRow_decodeRow lo hi⟩,
    fun row hrow => ⟨decodeRow_encodeRow hrow, fun i hi c hc => ?_⟩, fun t ht => ⟨decodeTile_length t, fun r hr => ?_⟩⟩
  · have column := decodeRow_getElem? lo hi hi8
    exact ⟨_, column, rowPixel_toNat lo hi i, (reverse_getElem?_seven_sub (decodeRow_length lo hi) hi8).trans column⟩
  · exact ⟨encodePlane_getLsbD 0 hrow hi hc, encodePlane_getLsbD 1 hrow hi hc⟩
  · have byte : ∀ j < 16, t[j]? = some (t.getD j 0) := fun j hj => by simp [ht, hj]
    have row := decodeTile_getElem? t hr
    exact ⟨_, _, byte _ (by omega), byte _ (by omega), row,
      (reverse_getElem?_seven_sub (decodeTile_length t) hr).trans row⟩

end Sys2Proof.Machine
end

section
/-! PROOFS. Pixel priority (43_pixel_mixer.md R211). One equation of `State.resolve` per resolution rule; the names speak of
`State.objEn` and `State.bgPrio`, bits 1 and 0 of LCDC. -/

namespace Sys2Proof.Machine

variable {s : State} {b p : Pixel} {o : Option Pixel}

theorem State.resolveBg_eq (s : State) (b : Pixel) :
    s.resolveBg b = if s.cfg.cgbMode = false ∧ s.bgPrio = false then blank else s.bgColor b := by
  simp [State.resolveBg]

/-- First rule: without a visible sprite pixel the background shows. -/
theorem State.resolve_of_noSprite (h : o = none ∨ s.objEn = false) : s.resolve b o = s.resolveBg b := by
  cases o with
  | none => rfl
  | some p =>
    have hobj : s.objEn = false := h.resolve_left nofun
    simp [State.resolve, hobj]

/-- Second rule, with reading (a): a transparent sprite pixel shows the background color, never the blank one. -/
theorem State.resolve_of_transparent (hobj : s.objEn = true) (hp : p.color = 0#2) :
    s.resolve b (some p) = s.bgColor b := by
  simp [State.resolve, hobj, hp]

/-- Fourth rule, with reading (b): the tile's priority bit hides the sprite whatever LCDC bit 0 and the background color. -/
theorem State.resolve_of_tilePriority (hobj : s.objEn = true) (hp : p.color ≠ 0#2)
    (ht : s.cfg.cgbMode = true ∧ b.bgToOam = true) : s.resolve b (some p) = s.bgColor b := by
  simp [State.resolve, hobj, hp, ht]

/-- Third rule: an opaque sprite pixel loses only when LCDC bit 0 is set, it lies behind the background, and the background
is opaque. -/
theorem State.resolve_of_opaque (hobj : s.objEn = true) (hp : p.color ≠ 0#2)
    (ht : ¬(s.cfg.cgbMode = true ∧ b.bgToOam = true)) :
    s.resolve b (some p) =
      if s.bgPrio = true ∧ p.bgOverObj = true ∧ b.color ≠ 0#2 then s.bgColor b else s.objColor p := by
  have htile : (s.cfg.cgbMode && b.bgToOam) = false := by simpa using ht
  cases hprio : s.bgPrio <;> cases hover : p.bgOverObj <;> simp [State.resolve, hobj, hp, htile, hprio, hover]

/-- Settles O46 (R211): each clause is the equation of its resolution rule. -/
theorem resolutionRules : Obligations.ResolutionRules := by
  unfold Obligations.ResolutionRules
  refine fun s b o => ⟨fun h => (State.resolve_of_noSprite h).trans (s.resolveBg_eq b), ?_⟩
  rintro p rfl hobj
  refine ⟨State.resolve_of_transparent hobj, fun hp hcgb ht => State.resolve_of_tilePriority hobj hp ⟨hcgb, ht⟩,
    fun hp ht => ?_⟩
  have rule := State.resolve_of_opaque hobj hp ht
  refine ⟨fun hprio => ?_, fun _ hover => ?_, fun _ _ hb => ?_, fun hprio hover hb => ?_⟩
  · exact rule.trans (if_neg fun ⟨h, _⟩ => ne_true_of_eq_false hprio h)
  · exact rule.trans (if_neg fun ⟨_, h, _⟩ => ne_true_of_eq_false hover h)
  · exact rule.trans (if_neg fun ⟨_, _, h⟩ => h hb)
  · exact rule.trans (if_pos ⟨hprio, hover, hb⟩)

end Sys2Proof.Machine
end

section
/-! PROOFS. One dot of the Background Fetcher (41_bg_fetcher.md R160 to R170). `bgStep_dot` says once what it does to the
fetcher; the bound of the queue, the budget of DRAW's starved dots and the fetcher's pace are read off it. -/

namespace Sys2Proof.Machine

/-! ### What the dot does -/

@[simp] theorem State.pushRow_length (s : State) : s.pushRow.length = 8 := by
  unfold State.pushRow; dsimp only; split <;> simp [flipRow]

/-- How many pixels the next push discards (R170). -/
def State.discardCount (s : State) : Nat := if s.bg.discardPending then s.fineScroll else 0

theorem State.discardCount_le (s : State) : s.discardCount ≤ 7 := by
  unfold State.discardCount State.fineScroll; split <;> omega

theorem State.tryPush_of_full {s : State} (h : 8 < s.bg.queue.length) : s.tryPush = s :=
  if_neg (Nat.not_le.2 h)

theorem State.tryPush_bg_of_room {s : State} (h : s.bg.queue.length ≤ 8) :
    s.tryPush.bg = { s.bg with
      stage := .getTile
      stageDot := 0
      fetchX := s.bg.fetchX + 1
      discardPending := false
      queue := (s.bg.queue ++ s.pushRow.map s.bgPixel).drop s.discardCount } := by
  rw [State.tryPush, if_pos h]
  unfold State.push State.scrollDiscard State.discardCount
  cases hd : s.bg.discardPending <;> simp [hd] <;> rfl

/-- What a dot of the fetcher can do to the queue and to the place in the tile. -/
inductive QueueEffect (s t : State) : Prop
  /-- A dot before the one that tries to push. -/
  | wait (window : t.bg.inWindow = s.bg.inWindow) (discard : t.bg.discardPending = s.bg.discardPending)
      (queue : t.bg.queue = s.bg.queue) (left : t.fetchLeft + 1 = s.fetchLeft)
  /-- A push that finds no room (R168). -/
  | full (window : t.bg.inWindow = s.bg.inWindow) (discard : t.bg.discardPending = s.bg.discardPending)
      (queue : t.bg.queue = s.bg.queue) (noRoom : 8 < s.bg.queue.length) (leftBefore : s.fetchLeft = 1) (left : t.fetchLeft = 1)
  /-- A push of a tile row (R169, R170). -/
  | push (window : t.bg.inWindow = s.bg.inWindow) (discard : t.bg.discardPending = false)
      (queue : t.bg.queue = (s.bg.queue ++ s.pushRow.map s.bgPixel).drop s.discardCount)
      (room : s.bg.queue.length ≤ 8) (leftBefore : s.fetchLeft = 1) (left : t.fetchLeft = 6)
  /-- The entry of the window (R161, R162). -/
  | enter (before : s.bg.inWindow = false) (window : t.bg.inWindow = true) (discard : t.bg.discardPending = false)
      (queue : t.bg.queue = []) (left : t.fetchLeft ≤ 6)

/-- The fetcher's pace before the first pixel of a line: a tile takes at least six dots and gives at most eight pixels. -/
def State.onPace (s : State) (dots : Nat) : Prop :=
  s.bg.queue.length ≤ 8 * s.bg.fetchX ∧ 6 * s.bg.fetchX + s.fetchSpent ≤ dots

/-- What a dot of the Background Fetcher can do. -/
structure BgDot (s t : State) : Prop where
  stage : t.bg.stage ≠ .push
  stageDot : t.bg.stageDot ≤ 1
  stall : t.bg.stall = s.bg.stall
  tileBytes : s.bg.tileBytes.length = 16 → t.bg.tileBytes.length = 16
  tileAttr : s.cfg.cgbMode = false → s.bg.tileAttr = 0#8 → t.bg.tileAttr = 0#8
  pace : ∀ n, s.onPace n → t.onPace (n + 1)
  effect : QueueEffect s t

/-- A dot that leaves the queue alone and moves one dot on in the tile. -/
theorem BgDot.of_wait {s t : State} {stage : FetchStage} {dot : Nat} {idx attr : Byte} {bytes : List Byte}
    (ht : t.bg = { s.bg with stage := stage, stageDot := dot, tileIdx := idx, tileAttr := attr, tileBytes := bytes })
    (hstage : stage ≠ .push) (hdot : dot ≤ 1) (hbytes : s.bg.tileBytes.length = 16 → bytes.length = 16)
    (hattr : s.cfg.cgbMode = false → s.bg.tileAttr = 0#8 → attr = 0#8)
    (left : t.fetchLeft + 1 = s.fetchLeft) (spent : t.fetchSpent = s.fetchSpent + 1) : BgDot s t where
  stage := by rwa [ht]
  stageDot := by rwa [ht]
  stall := by rw [ht]
  tileBytes := by rwa [ht]
  tileAttr := by rwa [ht]
  pace n h := by
    unfold State.onPace at h ⊢
    rw [spent, ht]
    exact ⟨h.1, by dsimp only; omega⟩
  effect := .wait (by rw [ht]) (by rw [ht]) (by rw [ht]) left

/-- The state of a fetcher that has its tile and is about to try a push. -/
def State.asleep (s : State) (dot : Nat) : State := { s with bg := { s.bg with stage := .sleep, stageDot := dot } }

theorem State.asleep_of_sleep {s : State} (h : s.bg.stage = .sleep) : s.asleep s.bg.stageDot = s := by
  unfold State.asleep; rw [← h]

/-- The dot on which a push is tried. -/
theorem BgDot.of_tryPush {s : State} {dot : Nat} (hdot : dot ≤ 1) (left : s.fetchLeft = 1) (spent : 5 ≤ s.fetchSpent) :
    BgDot s (s.asleep dot).tryPush := by
  obtain room | noRoom := Nat.lt_or_ge 8 s.bg.queue.length |>.symm
  · have ht : (s.asleep dot).tryPush.bg = _ := State.tryPush_bg_of_room room
    generalize (s.asleep dot).tryPush = t at ht
    have fresh : t.fetchSpent = 0 ∧ t.fetchLeft = 6 := by simp [State.fetchLeft, State.fetchSpent, ht]
    refine ⟨by simp [ht], by simp [ht], by simp [ht, State.asleep], by simp [ht, State.asleep], by simp [ht, State.asleep],
      fun n h => ?_, .push (by simp [ht, State.asleep]) (by rw [ht]) (by rw [ht]; rfl) room left fresh.2⟩
    unfold State.onPace at h ⊢
    rw [fresh.1, ht]
    simp only [List.length_drop, List.length_append, List.length_map, State.pushRow_length, State.asleep]
    omega
  · rw [State.tryPush_of_full (s := s.asleep dot) noRoom]
    refine ⟨by simp [State.asleep], hdot, rfl, id, fun _ => id, fun n h => ⟨h.1, ?_⟩, .full rfl rfl rfl noRoom left rfl⟩
    have := h.2
    show 6 * s.bg.fetchX + 6 ≤ n + 1
    omega

/-- One dot of stage work (R160): the first dot of a stage only counts, the second does the work of the stage. -/
theorem State.bgStageDot_dot {s : State} (hstage : s.bg.stage ≠ .push) (hdot : s.bg.stageDot ≤ 1) : BgDot s s.bgStageDot := by
  have counts : s.bg.stage ≠ .sleep → s.bg.stageDot = 0 → BgDot s s.bgStageDot := fun hsleep h0 => by
    have ht : s.bgStageDot.bg = { s.bg with stageDot := 1 } := by
      unfold State.bgStageDot; cases hs : s.bg.stage <;> simp_all
    refine .of_wait ht hstage le_rfl id (fun _ => id) ?_ ?_ <;>
      cases hs : s.bg.stage <;> simp_all [State.fetchLeft, State.fetchSpent]
  obtain h0 | h1 : s.bg.stageDot = 0 ∨ s.bg.stageDot = 1 := by omega
  all_goals cases hs : s.bg.stage
  case inl.getTile | inl.getTileDataLow | inl.getTileDataHigh => exact counts (by simp [hs]) h0
  case inl.push | inr.push => exact absurd hs hstage
  case inl.sleep | inr.sleep =>
    have ht : s.bgStageDot = (s.asleep s.bg.stageDot).tryPush := by
      rw [State.asleep_of_sleep hs]; simp [State.bgStageDot, hs]
    rw [ht]
    exact .of_tryPush hdot (by simp [State.fetchLeft, hs]) (by simp [State.fetchSpent, hs])
  case inr.getTile =>
    have ht : s.bgStageDot.bg = { s.bg with
        stage := .getTileDataLow
        stageDot := 0
        tileIdx := s.getTile.bg.tileIdx
        tileAttr := s.getTile.bg.tileAttr } := by
      simp only [State.bgStageDot, hs, h1, Nat.reduceAdd, if_true]; rfl
    refine .of_wait ht (by simp) (by simp) id (fun h _ => by simp [State.getTile, h]) ?_ ?_ <;>
      simp [State.fetchLeft, State.fetchSpent, ht, hs, h1]
  case inr.getTileDataLow =>
    have ht : s.bgStageDot.bg = { s.bg with
        stage := .getTileDataHigh
        stageDot := 0
        tileBytes := s.getTileData.bg.tileBytes } := by
      simp only [State.bgStageDot, hs, h1, Nat.reduceAdd, if_true]; rfl
    refine .of_wait ht (by simp) (by simp) (fun _ => by simp [State.getTileData]) (fun _ => id) ?_ ?_ <;>
      simp [State.fetchLeft, State.fetchSpent, ht, hs, h1]
  case inr.getTileDataHigh =>
    have ht : s.bgStageDot = (s.asleep 0).tryPush := by
      simp [State.bgStageDot, hs, h1, State.asleep]
    rw [ht]
    exact .of_tryPush (by simp) (by simp [State.fetchLeft, State.fetchSpent, hs, h1]) (by simp [State.fetchSpent, hs, h1])

theorem State.bgStep_of_stays {s : State} (h : s.entersWindow = false) (hstall : s.bg.stall = 0) : s.bgStep = s.bgStageDot := by
  simp [State.bgStep, State.windowEntryCheck, h, hstall]

/-- The dot that enters the window (R161, R162): the stall, if any, is this dot. -/
theorem State.bgStep_bg_of_enters {s : State} (h : s.entersWindow = true) (hstall : s.bg.stall = 0) :
    s.bgStep.bg = { s.bg with
      inWindow := true
      queue := []
      stage := .getTile
      stageDot := if s.windowEntryStalls then 0 else 1
      fetchX := 0
      discardPending := false } := by
  unfold State.bgStep State.windowEntryCheck State.enterWindow
  cases hs : s.windowEntryStalls <;> simp [h, hstall, State.bgStageDot]

theorem State.entersWindow_outside {s : State} (h : s.entersWindow = true) : s.bg.inWindow = false := by
  simp [State.entersWindow] at h; tauto

/-- One dot of the Background Fetcher (R160). -/
theorem State.bgStep_dot {s : State} (h : s.queueInv) : BgDot s s.bgStep := by
  obtain ⟨-, -, -, hstage, hdot, hstall, -, -⟩ := h
  cases he : s.entersWindow with
  | false => rw [State.bgStep_of_stays he hstall]; exact State.bgStageDot_dot hstage hdot
  | true =>
    have ht := State.bgStep_bg_of_enters he hstall
    have hd : s.bgStep.bg.stageDot ≤ 1 := by rw [ht]; dsimp only; split <;> simp
    refine ⟨by simp [ht], hd, by simp [ht], by simp [ht], by simp [ht], fun n _ => ⟨by simp [ht], ?_⟩,
      .enter (State.entersWindow_outside he) (by simp [ht]) (by simp [ht]) (by simp [ht]) ?_⟩
    · simp [State.fetchSpent, ht] at hd ⊢; omega
    · simp [State.fetchLeft, State.fetchSpent, ht]

/-! ### The bounds of the fetcher and the starved dots -/

theorem State.queueInv.spQueue_le {s : State} (h : s.queueInv) : s.sp.queue.length ≤ 8 := h.2.1

theorem State.queueInv.lx_le {s : State} (h : s.queueInv) : s.lx ≤ 160 := h.2.2.1

theorem State.queueInv.queue_of_discard {s : State} (h : s.queueInv) : s.bg.discardPending = true → s.bg.queue = [] :=
  h.2.2.2.2.2.2.2

theorem State.fetchLeft_pos {s : State} (h : s.bg.stageDot ≤ 1) : 1 ≤ s.fetchLeft := by
  unfold State.fetchLeft State.fetchSpent; cases s.bg.stage <;> simp <;> omega

theorem QueueEffect.discard_empties {s t : State} (e : QueueEffect s t) (h : s.bg.discardPending = true → s.bg.queue = []) :
    t.bg.discardPending = true → t.bg.queue = [] := by
  cases e with
  | wait _ discard queue _ | full _ discard queue _ _ _ => rwa [discard, queue]
  | push _ discard _ _ _ _ | enter _ _ discard _ _ => simp [discard]

theorem QueueEffect.queue_length_le {s t : State} (e : QueueEffect s t) (h : s.bg.queue.length ≤ 16) : t.bg.queue.length ≤ 16 := by
  cases e with
  | wait _ _ queue _ | full _ _ queue _ _ _ => rwa [queue]
  | push _ _ queue room _ _ => simp [queue]; omega
  | enter _ _ _ queue _ => simp [queue]

/-- A row pushed onto an empty queue does not let the Mixer pop. -/
theorem QueueEffect.queue_length_of_empty {s t : State} (e : QueueEffect s t) (h : s.bg.queue = []) : t.bg.queue.length ≤ 8 := by
  cases e with
  | wait _ _ queue _ | full _ _ queue _ _ _ | push _ _ queue _ _ _ => simp [queue, h]
  | enter _ _ _ queue _ => simp [queue]

theorem State.bgStep_queueInv {s : State} (h : s.queueInv) : s.bgStep.queueInv := by
  have dot := State.bgStep_dot h
  obtain ⟨hq, hsq, hlx, -, -, hstall, hbytes, hdiscard⟩ := h
  exact ⟨dot.effect.queue_length_le hq, by simpa using hsq, by simpa using hlx, dot.stage, dot.stageDot,
    dot.stall.trans hstall, dot.tileBytes hbytes, dot.effect.discard_empties hdiscard⟩

/-- The part of `starveBudget` that depends on the queue and the place in the tile. -/
def starvedDots (discard : Bool) (queued left : Nat) : Nat :=
  if discard then left + 10
  else if queued = 0 then left + 5
  else if queued ≤ 8 then (left - 1) + (6 - queued)
  else (left - 1) - (queued - 8)

theorem State.starveBudget_eq (s : State) : s.starveBudget =
    starvedDots s.bg.discardPending s.bg.queue.length s.fetchLeft + if s.bg.inWindow then 0 else 12 := rfl

/-- How many pixels a push leaves. -/
theorem QueueEffect.push_length {s t : State} (queue : t.bg.queue = (s.bg.queue ++ s.pushRow.map s.bgPixel).drop s.discardCount) :
    t.bg.queue.length = s.bg.queue.length + 8 - s.discardCount := by simp [queue]

/-- A dot of the fetcher that leaves the Mixer starved uses up one starved dot. -/
theorem BgDot.starveBudget_lt {s t : State} (dot : BgDot s t) (hdiscard : s.bg.discardPending = true → s.bg.queue = [])
    (starved : t.bg.queue.length ≤ 8) : t.starveBudget < s.starveBudget := by
  have hleft := State.fetchLeft_pos dot.stageDot
  rw [State.starveBudget_eq, State.starveBudget_eq]
  cases dot.effect with
  | wait window discard queue left =>
    rw [queue] at starved
    rw [window, discard, queue, ← left]
    unfold starvedDots; split_ifs <;> omega
  | full _ _ queue noRoom _ _ => rw [queue] at starved; omega
  | push window discard queue room leftBefore left =>
    have length := QueueEffect.push_length queue
    have count := s.discardCount_le
    rw [window, discard, leftBefore, left]
    cases hd : s.bg.discardPending with
    | true =>
      rw [hdiscard hd, List.length_nil] at length
      simp only [starvedDots, Bool.false_eq_true, if_false, if_true]; split_ifs <;> omega
    | false =>
      have none : s.discardCount = 0 := by simp [State.discardCount, hd]
      simp only [starvedDots, Bool.false_eq_true, if_false]; split_ifs <;> omega
  | enter before window discard queue left =>
    rw [before, window, discard, queue]
    simp only [starvedDots, List.length_nil, Bool.false_eq_true, if_false, if_true]; split_ifs <;> omega

/-- A dot of the fetcher that lets the Mixer pop uses up no starved dot. -/
theorem BgDot.starveBudget_le {s t u : State} (dot : BgDot s t) (hdiscard : s.bg.discardPending = true → s.bg.queue = [])
    (pops : 8 < t.bg.queue.length) {rest : List Pixel} (hrest : rest.length + 1 = t.bg.queue.length)
    (hu : u.bg = { t.bg with queue := rest }) : u.starveBudget ≤ s.starveBudget := by
  have popped : u.starveBudget = starvedDots t.bg.discardPending rest.length t.fetchLeft + if t.bg.inWindow then 0 else 12 := by
    rw [State.starveBudget_eq, State.fetchLeft, State.fetchSpent, hu]; rfl
  rw [popped, State.starveBudget_eq]
  cases dot.effect with
  | wait window discard queue left =>
    rw [queue] at pops hrest
    rw [window, discard, ← left, ← hrest]
    unfold starvedDots; split_ifs <;> omega
  | full window discard queue _ leftBefore left =>
    rw [queue] at pops hrest
    rw [window, discard, leftBefore, left, ← hrest]
    unfold starvedDots; split_ifs <;> omega
  | push window discard queue room leftBefore left =>
    have length := QueueEffect.push_length queue
    have count := s.discardCount_le
    rw [window, discard, leftBefore, left]
    cases hd : s.bg.discardPending with
    | true => simp only [hdiscard hd, List.length_nil] at length; omega
    | false =>
      have none : s.discardCount = 0 := by simp [State.discardCount, hd]
      simp only [starvedDots, Bool.false_eq_true, if_false]; split_ifs <;> omega
  | enter _ _ _ queue _ => simp [queue] at pops

/-! ### Monochrome -/

/-- The map byte of color mode is not latched and no queued background pixel has a priority bit or a palette (R169, R249). -/
def State.plainBg (s : State) : Prop := s.bg.tileAttr = 0#8 ∧ ∀ p ∈ s.bg.queue, p.bgToOam = false ∧ p.pal = 0#3

theorem BgDot.plainBg {s t : State} (dot : BgDot s t) (hmono : s.cfg.cgbMode = false) (h : s.plainBg) : t.plainBg := by
  refine ⟨dot.tileAttr hmono h.1, ?_⟩
  cases dot.effect with
  | wait _ _ queue _ | full _ _ queue _ _ _ => rw [queue]; exact h.2
  | push _ _ queue _ _ _ =>
    intro p hp
    rw [queue] at hp
    obtain hp | hp := List.mem_append.1 (List.mem_of_mem_drop hp)
    · exact h.2 p hp
    · obtain ⟨c, -, rfl⟩ := List.mem_map.1 hp
      simp [State.bgPixel, hmono]
  | enter _ _ _ queue _ => simp [queue]

end Sys2Proof.Machine
end

section
/-! PROOFS. One dot of the Sprite Fetcher (42_sprite_fetcher.md R184 to R198): what each of its operations does to the sprites
of the line, to the bounds of both fetchers and to the budget of the dots it can still consume. -/

namespace Sys2Proof.Machine

/-! ### The sprites of the line -/

@[simp] theorem markDone_length (l : List LineSprite) (i : Nat) : (markDone l i).length = l.length := by
  induction l generalizing i with
  | nil => rfl
  | cons e l ih => cases i <;> simp [markDone, ih]

/-- Marking an entry keeps what does not speak of `done`. -/
theorem forall_mem_markDone {P : LineSprite → Prop} (hP : ∀ e, P e → P { e with done := true }) {l : List LineSprite} {i : Nat}
    (h : ∀ e ∈ l, P e) : ∀ e ∈ markDone l i, P e := by
  induction l generalizing i with
  | nil => exact h
  | cons e l ih =>
    obtain ⟨he, hl⟩ := List.forall_mem_cons.1 h
    cases i with
    | zero => exact List.forall_mem_cons.2 ⟨hP e he, hl⟩
    | succ i => exact List.forall_mem_cons.2 ⟨he, ih hl⟩

/-- Marking an entry that is not processed leaves one fewer. -/
theorem undone_markDone {l : List LineSprite} {i : Nat} {e : LineSprite} (hi : l[i]? = some e) (he : e.done = false) :
    ((markDone l i).filter fun e => !e.done).length + 1 = (l.filter fun e => !e.done).length := by
  induction l generalizing i with
  | nil => simp at hi
  | cons a l ih =>
    cases i with
    | zero =>
      obtain rfl : a = e := by simpa using hi
      simp [markDone, he]
    | succ i =>
      have := ih (i := i) (by simpa using hi)
      cases ha : a.done <;> simp [markDone, ha, this]

theorem firstAtCursor_some {l : List LineSprite} {lx i : Nat} (h : firstAtCursor l lx = some i) :
    ∃ e, l[i]? = some e ∧ e.done = false := by
  induction l generalizing i with
  | nil => simp [firstAtCursor] at h
  | cons a l ih =>
    unfold firstAtCursor at h
    split at h
    · next ha =>
      obtain rfl : 0 = i := by simpa using h
      have fresh : a.done = false ∧ a.sx = lx := by simpa using ha
      exact ⟨a, rfl, fresh.1⟩
    · obtain ⟨j, hj, rfl⟩ := Option.map_eq_some_iff.1 h
      simpa using ih hj

/-! ### The sprite queue -/

@[simp] theorem mergeQueue_length (q p : List Pixel) : (mergeQueue q p).length = q.length := by
  induction q generalizing p with
  | nil => cases p <;> rfl
  | cons a q ih => cases p <;> simp [mergeQueue, ih]

theorem padQueue_length {q : List Pixel} (h : q.length ≤ 8) : (padQueue q).length = 8 := by
  simp [padQueue]; omega

/-! ### The cases of a dot -/

/-- What a dot of a fetch in stages 1 to 5 can do (R185). -/
inductive SpriteDot (s : State) : State → Prop
  | abort : SpriteDot s s.abortFetch
  | extra (hpre : 0 < s.sp.pre) : SpriteDot s (State.penalty { s with sp := { s.sp with pre := s.sp.pre - 1 } })
  | stage1 (hstage : s.sp.stage = .stage1) (hpre : s.sp.pre = 0) : SpriteDot s s.stage1Dot
  | stage2 (hstage : s.sp.stage = .stage2) (hpre : s.sp.pre = 0) : SpriteDot s (s.oneDotStage .stage3)
  | stage3 (hstage : s.sp.stage = .stage3) (hpre : s.sp.pre = 0) : SpriteDot s s.stage3Dot
  | stage4 (hstage : s.sp.stage = .stage4) (hpre : s.sp.pre = 0) : SpriteDot s (s.oneDotStage .stage5)
  | stage5 (hstage : s.sp.stage = .stage5) (hpre : s.sp.pre = 0) : SpriteDot s (s.oneDotStage .stage6)

theorem State.spriteDot_cases {s : State} (hidle : s.sp.stage ≠ .idle) (h6 : s.sp.stage ≠ .stage6) : SpriteDot s s.spriteDot := by
  unfold State.spriteDot
  split_ifs with habort hpre
  · exact .abort
  · exact .extra hpre
  · have hpre : s.sp.pre = 0 := by omega
    cases hs : s.sp.stage with
    | idle => exact absurd hs hidle
    | stage6 => exact absurd hs h6
    | stage1 => exact .stage1 hs hpre
    | stage2 => exact .stage2 hs hpre
    | stage3 => exact .stage3 hs hpre
    | stage4 => exact .stage4 hs hpre
    | stage5 => exact .stage5 hs hpre

/-- The state in which a stage-1 dot clocks the Background Fetcher (R189). -/
def State.stage1Start (s : State) : State := State.penalty { s with sp := { s.sp with s1Dots := s.sp.s1Dots + 1 } }

/-- A stage-1 dot clocks the Background Fetcher exactly if the queue is empty. -/
theorem State.stage1Dot_bg (s : State) :
    s.stage1Dot.bg = if s.bg.queue = [] then s.stage1Start.bgStep.bg else s.bg := by
  unfold State.stage1Dot
  by_cases hq : s.bg.queue = [] <;> simp [hq, State.stage1Start] <;> split <;> rfl

/-- Stage 1 ends once five dots have passed and the queue is not empty (R189). -/
theorem State.stage1Dot_sp (s : State) : s.stage1Dot.sp = { s.sp with
    s1Dots := s.sp.s1Dots + 1
    stage := if 5 ≤ s.sp.s1Dots + 1 ∧ s.stage1Dot.bg.queue ≠ [] then .stage2 else s.sp.stage } := by
  unfold State.stage1Dot
  by_cases hq : s.bg.queue = [] <;> simp [hq, List.length_pos_iff] <;> split <;> simp_all

theorem State.stage3Dot_sp (s : State) : s.stage3Dot.sp = { s.sp with
    s3Dots := s.sp.s3Dots + 1
    stage := if s.sp.s3Dots + 1 = 3 then .stage4 else s.sp.stage } := by
  by_cases h : s.sp.s3Dots + 1 = 3
  · rw [if_pos h]; exact congrArg State.sp (if_pos h)
  · rw [if_neg h]; exact congrArg State.sp (if_neg h)

/-! ### What the dot does to the Background Fetcher -/

/-- The Background Fetcher is the same but for its suspension. -/
def SameBg (s t : State) : Prop := t.bg = { s.bg with suspended := t.bg.suspended }

theorem SameBg.trans {s t u : State} (h : SameBg s t) (h' : SameBg t u) : SameBg s u := by
  unfold SameBg at *; rw [h', h]

theorem SameBg.starveBudget {s t : State} (h : SameBg s t) : t.starveBudget = s.starveBudget := by
  unfold State.starveBudget State.fetchLeft State.fetchSpent; rw [h]

theorem SameBg.onPace {s t : State} (h : SameBg s t) {n : Nat} (hs : s.onPace n) : t.onPace n := by
  unfold State.onPace State.fetchSpent at *; rwa [h]

theorem SameBg.plainBg {s t : State} (h : SameBg s t) (hs : s.plainBg) : t.plainBg := by
  unfold State.plainBg at *; rwa [h]

theorem SameBg.queueInv {s t : State} (h : SameBg s t) (hlx : t.lx = s.lx) (hq : t.sp.queue.length ≤ 8) (hs : s.queueInv) :
    t.queueInv := by
  obtain ⟨hbq, -, hl, hbg⟩ := hs
  unfold State.queueInv
  rw [h, hlx]; exact ⟨hbq, hq, hl, hbg⟩

/-- A dot of a fetch leaves the Background Fetcher alone, or clocks it because its queue is empty. -/
theorem SpriteDot.bg_cases {s t : State} (dot : SpriteDot s t) :
    SameBg s t ∨ (s.sp.stage = .stage1 ∧ s.bg.queue = [] ∧ SameBg s.stage1Start.bgStep t) := by
  cases dot with
  | abort | extra _ | stage2 _ _ | stage4 _ _ | stage5 _ _ => exact .inl rfl
  | stage3 _ _ => exact .inl (by rw [SameBg, State.stage3Dot_bg])
  | stage1 hstage _ =>
    have hbg := s.stage1Dot_bg
    split_ifs at hbg with hq
    · exact .inr ⟨hstage, hq, by rw [SameBg, hbg]⟩
    · exact .inl (by rw [SameBg, hbg])

theorem SpriteDot.frame {s t : State} (dot : SpriteDot s t) : t = { s with ctl := t.ctl, bg := t.bg, sp := t.sp } := by
  cases dot with
  | abort | extra _ | stage2 _ _ | stage4 _ _ | stage5 _ _ => rfl
  | stage1 _ _ => exact stage1Dot_frame s
  | stage3 _ _ => rw [stage3Dot_frame]

theorem SpriteDot.spQueue {s t : State} (dot : SpriteDot s t) : t.sp.queue = s.sp.queue := by
  cases dot with
  | abort | extra _ | stage2 _ _ | stage4 _ _ | stage5 _ _ => rfl
  | stage1 _ _ => rw [State.stage1Dot_sp]
  | stage3 _ _ => rw [State.stage3Dot_sp]

theorem SpriteDot.queueInv {s t : State} (dot : SpriteDot s t) (h : s.queueInv) : t.queueInv := by
  have hlx : t.lx = s.lx := (congrArg State.lx dot.frame :)
  have hq : t.sp.queue.length ≤ 8 := by rw [dot.spQueue]; exact h.spQueue_le
  obtain same | ⟨-, -, clocked⟩ := dot.bg_cases
  · exact same.queueInv hlx hq h
  · have hs : s.stage1Start.queueInv := h
    exact clocked.queueInv (hlx.trans (State.bgStep_lx s.stage1Start).symm) hq (State.bgStep_queueInv hs)

/-! ### The fetch in progress -/

/-- A fetch that ends marks its entry and leaves the Sprite Fetcher idle. -/
theorem State.spriteInv_of_processed {s t : State} (h : s.spriteInv) (hline : t.sp.line = markDone s.sp.line s.sp.cur)
    (hidle : t.sp.stage = .idle) (hpre : t.sp.pre ≤ 7) : t.spriteInv := by
  obtain ⟨hlen, hmem, -⟩ := h
  refine ⟨by rwa [hline, markDone_length], ?_, hpre, by simp [hidle], by simp [hidle], by simp [hidle]⟩
  rw [hline]
  exact forall_mem_markDone (fun e he => he) hmem

/-- A fetch that goes on keeps its entry. -/
theorem State.spriteInv_of_goesOn {s t : State} (h : s.spriteInv) (hrun : s.sp.stage ≠ .idle) (hline : t.sp.line = s.sp.line)
    (hcur : t.sp.cur = s.sp.cur) (hpre : t.sp.pre ≤ s.sp.pre)
    (h12 : t.sp.stage = .stage1 ∨ t.sp.stage = .stage2 → t.sp.s3Dots = 0) (h3 : t.sp.stage = .stage3 → t.sp.s3Dots ≤ 2) :
    t.spriteInv := by
  obtain ⟨hlen, hmem, hpre7, -, -, hentry⟩ := h
  refine ⟨by rwa [hline], by rwa [hline], hpre.trans hpre7, h12, h3, fun _ => ?_⟩
  rw [hline, hcur]; exact hentry hrun

theorem SpriteDot.spriteInv {s t : State} (dot : SpriteDot s t) (hrun : s.sp.stage ≠ .idle) (h : s.spriteInv) : t.spriteInv := by
  have ⟨_, _, _, h12, h3, _⟩ := h
  cases dot with
  | abort => exact State.spriteInv_of_processed h rfl rfl (Nat.zero_le _)
  | extra hpre => exact State.spriteInv_of_goesOn h hrun rfl rfl (Nat.sub_le _ _) h12 h3
  | stage1 hstage _ =>
    refine State.spriteInv_of_goesOn h hrun ?_ ?_ ?_ ?_ ?_ <;> rw [State.stage1Dot_sp]
    · exact fun _ => h12 (.inl hstage)
    · dsimp only; split_ifs <;> simp [hstage]
  | stage2 hstage _ => exact State.spriteInv_of_goesOn h hrun rfl rfl le_rfl nofun fun _ => (h12 (.inr hstage)).trans_le (by omega)
  | stage3 hstage _ =>
    refine State.spriteInv_of_goesOn h hrun ?_ ?_ ?_ ?_ ?_ <;> rw [State.stage3Dot_sp] <;> dsimp only
    · split_ifs <;> simp [hstage]
    · have := h3 hstage; split_ifs <;> simp; omega
  | stage4 _ _ => exact State.spriteInv_of_goesOn h hrun rfl rfl le_rfl nofun nofun
  | stage5 _ _ => exact State.spriteInv_of_goesOn h hrun rfl rfl le_rfl nofun nofun

/-- Stage 1 outlasts five dots only while the queue is empty (R189). -/
def State.stage1Waits (s : State) : Prop := s.sp.stage = .stage1 → 5 ≤ s.sp.s1Dots → s.bg.queue = []

theorem SpriteDot.stage1Waits {s t : State} (dot : SpriteDot s t) (h : s.stage1Waits) : t.stage1Waits := by
  unfold State.stage1Waits at *
  cases dot with
  | abort | stage2 _ _ | stage4 _ _ | stage5 _ _ => nofun
  | extra _ => exact h
  | stage3 hstage _ => rw [State.stage3Dot_sp]; dsimp only; split_ifs <;> simp [hstage]
  | stage1 _ _ =>
    rw [State.stage1Dot_sp]
    dsimp only
    split_ifs with hnext
    · nofun
    · exact fun _ h5 => by_contra fun hq => hnext ⟨h5, hq⟩

/-! ### The budget -/

/-- The dots of DRAW still to come on which no pixel is output, but for the last. -/
def State.stallBudget (s : State) : Nat := s.starveBudget + s.spriteBudget

theorem State.undone_pos {s : State} {i : Nat} {e : LineSprite} (hi : s.sp.line[i]? = some e) (he : e.done = false) :
    0 < s.undone := by
  have := undone_markDone hi he
  unfold State.undone; omega

/-- A fetch that goes on uses up the dots that it no longer has left. -/
theorem State.spriteBudget_of_goesOn {s t : State} (hrun : s.sp.stage ≠ .idle) (hrun' : t.sp.stage ≠ .idle)
    (hline : t.sp.line = s.sp.line) (hextra : t.sp.extraDone = s.sp.extraDone) (hlx : t.lx = s.lx) :
    t.spriteBudget + s.fetchDotsLeft = s.spriteBudget + t.fetchDotsLeft := by
  unfold State.spriteBudget State.undone
  rw [hline, hextra, hlx, if_neg hrun, if_neg hrun']; omega

/-- A fetch that ends gives back the dots it had left. -/
theorem State.spriteBudget_of_processed {s t : State} (h : s.spriteInv) (hrun : s.sp.stage ≠ .idle)
    (hline : t.sp.line = markDone s.sp.line s.sp.cur) (hidle : t.sp.stage = .idle)
    (hextra : t.sp.extraDone = s.sp.extraDone) (hlx : t.lx = s.lx) : t.spriteBudget + s.fetchDotsLeft = s.spriteBudget := by
  obtain ⟨-, -, -, -, -, hentry⟩ := h
  obtain ⟨e, he, hdone⟩ := hentry hrun
  have := undone_markDone he hdone
  have hleft : t.fetchDotsLeft = 0 := by simp [State.fetchDotsLeft, hidle]
  unfold State.spriteBudget State.undone
  rw [hline, hextra, hlx, hleft, if_pos hidle, if_neg hrun]; omega

/-- A stage-1 dot uses up a dot of its own, but for the dots beyond the fifth. -/
theorem State.stage1Dot_spriteBudget {s : State} (hstage : s.sp.stage = .stage1) (hpre : s.sp.pre = 0) :
    s.stage1Dot.spriteBudget ≤ s.spriteBudget ∧ (s.sp.s1Dots < 5 → s.stage1Dot.spriteBudget < s.spriteBudget) := by
  have hsp := s.stage1Dot_sp
  have hrun' : s.stage1Dot.sp.stage ≠ .idle := by rw [hsp]; dsimp only; split_ifs <;> simp [hstage]
  have budget := State.spriteBudget_of_goesOn (s := s) (by simp [hstage]) hrun' (by rw [hsp]) (by rw [hsp]) (by simp)
  have before : s.fetchDotsLeft = (5 - s.sp.s1Dots) + 6 := by simp [State.fetchDotsLeft, hstage, hpre]
  have after : s.stage1Dot.fetchDotsLeft = (5 - (s.sp.s1Dots + 1)) + 6 := by
    unfold State.fetchDotsLeft
    rw [hsp, hstage]; dsimp only; rw [hpre]
    split_ifs <;> simp; omega
  omega

/-- A stage-1 dot with an empty queue uses up a starved dot. -/
theorem State.stage1Dot_starveBudget {s : State} (hq : s.queueInv) :
    s.stage1Dot.starveBudget ≤ s.starveBudget ∧ (s.bg.queue = [] → s.stage1Dot.starveBudget < s.starveBudget) := by
  have hbg := s.stage1Dot_bg
  split_ifs at hbg with hempty
  · have hstart : s.stage1Start.queueInv := hq
    have dot := State.bgStep_dot hstart
    have clocked : SameBg s.stage1Start.bgStep s.stage1Dot := by rw [SameBg, hbg]
    have lt : s.stage1Dot.starveBudget < s.starveBudget := by
      rw [clocked.starveBudget]
      exact dot.starveBudget_lt (fun _ => hempty) (dot.effect.queue_length_of_empty hempty)
    exact ⟨lt.le, fun _ => lt⟩
  · have same : SameBg s s.stage1Dot := by rw [SameBg, hbg]
    exact ⟨same.starveBudget.le, fun h => absurd h hempty⟩

/-- Every dot of a fetch uses up one dot of the budget: its own, or on a waiting stage-1 dot a starved one. -/
theorem SpriteDot.stallBudget_lt {s t : State} (dot : SpriteDot s t) (hrun : s.sp.stage ≠ .idle) (h6 : s.sp.stage ≠ .stage6)
    (hq : s.queueInv) (hs : s.spriteInv) (hw : s.stage1Waits) : t.stallBudget < s.stallBudget := by
  have own : SameBg s t → t.spriteBudget < s.spriteBudget → t.stallBudget < s.stallBudget := fun same lt => by
    unfold State.stallBudget; rw [same.starveBudget]; omega
  have goesOn : SameBg s t → t.sp.line = s.sp.line ∧ t.sp.extraDone = s.sp.extraDone ∧ t.lx = s.lx → t.sp.stage ≠ .idle →
      t.fetchDotsLeft < s.fetchDotsLeft → t.stallBudget < s.stallBudget := fun same ⟨hline, hextra, hlx⟩ hrun' left => by
    have budget := State.spriteBudget_of_goesOn hrun hrun' hline hextra hlx
    exact own same (by omega)
  cases dot with
  | abort =>
    have budget := State.spriteBudget_of_processed (t := s.abortFetch) hs hrun rfl rfl rfl rfl
    have left : 0 < s.fetchDotsLeft := by unfold State.fetchDotsLeft; cases hst : s.sp.stage <;> simp_all
    exact own rfl (by omega)
  | extra hpre =>
    refine goesOn rfl ⟨rfl, rfl, rfl⟩ hrun ?_
    unfold State.fetchDotsLeft; cases hst : s.sp.stage <;> simp_all
  | stage1 hstage hpre =>
    have sprites := State.stage1Dot_spriteBudget hstage hpre
    have starved := State.stage1Dot_starveBudget hq
    unfold State.stallBudget
    obtain early | late := Nat.lt_or_ge s.sp.s1Dots 5
    · exact Nat.add_lt_add_of_le_of_lt starved.1 (sprites.2 early)
    · exact Nat.add_lt_add_of_lt_of_le (starved.2 (hw hstage late)) sprites.1
  | stage2 hstage hpre =>
    refine goesOn rfl ⟨rfl, rfl, rfl⟩ nofun ?_
    simp [State.fetchDotsLeft, State.oneDotStage, hstage, hpre]; omega
  | stage3 hstage hpre =>
    have ⟨_, _, _, _, h3, _⟩ := hs
    have hdots := h3 hstage
    have hsp := s.stage3Dot_sp
    refine goesOn (by rw [SameBg, State.stage3Dot_bg]) (by simp [hsp]) (by rw [hsp]; dsimp only; split_ifs <;> simp [hstage]) ?_
    unfold State.fetchDotsLeft
    rw [hsp, hstage]; dsimp only; rw [hpre]
    split_ifs <;> simp <;> omega
  | stage4 hstage hpre =>
    refine goesOn rfl ⟨rfl, rfl, rfl⟩ nofun ?_
    simp [State.fetchDotsLeft, State.oneDotStage, hstage, hpre]
  | stage5 hstage hpre =>
    refine goesOn rfl ⟨rfl, rfl, rfl⟩ nofun ?_
    simp [State.fetchDotsLeft, State.oneDotStage, hstage, hpre]

/-! ### Delivery, trigger and the whole step -/

/-- The invariants of both fetchers together. -/
structure State.FetchersInv (s : State) : Prop where
  queue : s.queueInv
  sprite : s.spriteInv
  waits : s.stage1Waits

/-- What delivery and trigger, which take no dot, lead to: the same dot with no larger budget. -/
structure SameDot (s t : State) : Prop where
  cfg : t.cfg = s.cfg
  lx : t.lx = s.lx
  bg : SameBg s t
  inv : t.FetchersInv
  budget : t.stallBudget ≤ s.stallBudget

theorem SameDot.trans {s t u : State} (h : SameDot s t) (h' : SameDot t u) : SameDot s u :=
  ⟨h'.cfg.trans h.cfg, h'.lx.trans h.lx, h.bg.trans h'.bg, h'.inv, h'.budget.trans h.budget⟩

theorem State.deliverIfDue_sameDot {s : State} (h : s.FetchersInv) : SameDot s s.deliverIfDue := by
  unfold State.deliverIfDue
  split_ifs with h6
  · have same : SameBg s s.deliver := rfl
    have pixels : s.deliver.sp.queue.length ≤ 8 := by simp [State.deliver, padQueue_length h.queue.spQueue_le]
    have hrun : s.sp.stage ≠ .idle := by simp [h6]
    have sprites := State.spriteBudget_of_processed (t := s.deliver) h.sprite hrun rfl rfl rfl rfl
    have left : s.fetchDotsLeft = 0 := by simp [State.fetchDotsLeft, h6]
    refine ⟨rfl, rfl, same, ⟨same.queueInv rfl pixels h.queue, ?_, nofun⟩, ?_⟩
    · obtain ⟨-, -, hpre, -⟩ := h.sprite
      exact State.spriteInv_of_processed h.sprite rfl rfl hpre
    · unfold State.stallBudget; rw [same.starveBudget]; omega
  · exact ⟨rfl, rfl, rfl, h, le_rfl⟩

theorem State.deliverIfDue_stage_ne (s : State) : s.deliverIfDue.sp.stage ≠ .stage6 := by
  unfold State.deliverIfDue
  split_ifs with h6
  · nofun
  · exact h6

theorem State.spriteBudget_of_idle {s : State} (hidle : s.sp.stage = .idle) :
    s.spriteBudget = 11 * s.undone + if !s.sp.extraDone && s.lx == 0 then 7 else 0 := by
  simp [State.spriteBudget, State.fetchDotsLeft, hidle]

theorem State.beginFetch_spriteBudget (s : State) (i : Nat) : (s.beginFetch i).spriteBudget =
    11 * (s.undone - 1) + ((if s.extraDue then s.fineScroll else 0) + 11) +
      if !(s.sp.extraDone || s.extraDue) && s.lx == 0 then 7 else 0 := rfl

theorem State.fineScroll_le (s : State) : s.fineScroll ≤ 7 := by unfold State.fineScroll; omega

/-- A trigger: the eleven dots of the sprite and the extra dots of column 0 were in the budget (R186, R187). -/
theorem State.beginFetch_sameDot {s : State} (h : s.FetchersInv) (hidle : s.sp.stage = .idle) {i : Nat} {e : LineSprite}
    (hi : s.sp.line[i]? = some e) (he : e.done = false) : SameDot s (s.beginFetch i) := by
  have same : SameBg s (s.beginFetch i) := rfl
  have ⟨hlen, hmem, _⟩ := h.sprite
  have scroll := s.fineScroll_le
  refine ⟨rfl, rfl, same, ⟨same.queueInv rfl h.queue.spQueue_le h.queue,
    ⟨hlen, hmem, ?_, fun _ => rfl, nofun, fun _ => ⟨e, hi, he⟩⟩, fun _ h5 => absurd h5 (by simp [State.beginFetch])⟩, ?_⟩
  · simp only [State.beginFetch]; split_ifs <;> omega
  · have left := State.undone_pos hi he
    have sprites : (s.beginFetch i).spriteBudget ≤ s.spriteBudget := by
      rw [State.beginFetch_spriteBudget, State.spriteBudget_of_idle hidle]
      cases hdue : s.extraDue with
      | false => simp; omega
      | true =>
        have due : s.lx = 0 ∧ s.sp.extraDone = false := by simp [State.extraDue] at hdue; tauto
        simp [due]; omega
    unfold State.stallBudget; rw [same.starveBudget]; omega

/-- What `SpriteStep` can answer (R185). -/
inductive SpriteStepCase (s : State) : Bool × State → Prop
  /-- No fetch is in progress and none begins: the dot passes through. -/
  | pass (idle : s.deliverIfDue.sp.stage = .idle) : SpriteStepCase s (false, s.deliverIfDue)
  /-- The first dot of a fetch. -/
  | trigger {i : Nat} {t : State} (idle : s.deliverIfDue.sp.stage = .idle)
      (first : firstAtCursor s.deliverIfDue.sp.line s.deliverIfDue.lx = some i) (dot : SpriteDot (s.deliverIfDue.beginFetch i) t) :
      SpriteStepCase s (true, t)
  /-- A later dot of a fetch. -/
  | fetch {t : State} (run : s.deliverIfDue.sp.stage ≠ .idle) (dot : SpriteDot s.deliverIfDue t) : SpriteStepCase s (true, t)

theorem State.spriteStep_cases (s : State) : SpriteStepCase s s.spriteStep := by
  unfold State.spriteStep
  dsimp only
  split_ifs with hidle
  · split
    · exact .pass hidle
    · next hi => exact .trigger hidle hi (State.spriteDot_cases nofun nofun)
  · exact .fetch hidle (State.spriteDot_cases hidle s.deliverIfDue_stage_ne)

end Sys2Proof.Machine
end

section
/-! PROOFS. One dot of DRAW (40_mode_controller.md R135, R142): it uses up one dot of `State.drawBudget` whatever the fetchers
do on it, and the cursor keeps its distance from the dot of the mode. -/

namespace Sys2Proof.Machine

/-! ### The Mixer -/

/-- What `MixStep` can do (R210). -/
inductive MixCase (s : State) : State → Prop
  | starved (few : s.bg.queue.length ≤ 8) : MixCase s s
  | pops (b : Pixel) (rest : List Pixel) (queue : s.bg.queue = b :: rest) (many : 8 < s.bg.queue.length) :
      MixCase s (s.mixPixel b rest)

theorem State.mixStep_cases (s : State) : MixCase s s.mixStep := by
  unfold State.mixStep
  split
  · next hq => exact .starved (by simp [hq])
  · next b rest hq =>
    split_ifs with hmin
    · exact .pops b rest hq (by simpa [hq] using hmin)
    · exact .starved (by simp [hq] at hmin ⊢; omega)

/-! ### What a dot of DRAW keeps -/

/-- The pace of a line: until the first pixel the fetcher's, then the cursor's (R146). -/
def State.linePace (s : State) (dots : Nat) : Prop := if s.lx = 0 then s.onPace dots else s.lx + 11 ≤ dots

/-- What a dot of DRAW does to the invariants of a line. -/
structure DrawStep (s t : State) : Prop where
  inv : t.FetchersInv
  budget : t.drawBudget < s.drawBudget
  pace : ∀ n, s.linePace n → t.linePace (n + 1)
  plain : s.cfg.cgbMode = false → s.plainBg → t.plainBg

theorem State.drawBudget_eq (s : State) : s.drawBudget = 1 + (160 - s.lx) + s.stallBudget := by
  unfold State.drawBudget State.stallBudget; omega

theorem State.onPace_mono {s : State} {m n : Nat} (hmn : m ≤ n) (h : s.onPace m) : s.onPace n := ⟨h.1, h.2.trans hmn⟩

/-- A dot that outputs no pixel. -/
theorem DrawStep.of_noPixel {s t : State} (inv : t.FetchersInv) (hlx : t.lx = s.lx) (budget : t.stallBudget < s.stallBudget)
    (pace : ∀ n, s.onPace n → t.onPace (n + 1)) (plain : s.cfg.cgbMode = false → s.plainBg → t.plainBg) : DrawStep s t where
  inv := inv
  budget := by rw [State.drawBudget_eq, State.drawBudget_eq, hlx]; omega
  pace n h := by
    unfold State.linePace at *
    rw [hlx]
    split_ifs at * with h0
    · exact pace n h
    · omega
  plain := plain

/-- A dot of a fetch (R185). -/
theorem DrawStep.of_spriteDot {s u t : State} (same : SameDot s u) (run : u.sp.stage ≠ .idle) (dotted : u.sp.stage ≠ .stage6)
    (dot : SpriteDot u t) : DrawStep s t := by
  have inv : t.FetchersInv := ⟨dot.queueInv same.inv.queue, dot.spriteInv run same.inv.sprite, dot.stage1Waits same.inv.waits⟩
  have budget := dot.stallBudget_lt run dotted same.inv.queue same.inv.sprite same.inv.waits
  have hlx : t.lx = s.lx := (congrArg State.lx dot.frame :).trans same.lx
  refine .of_noPixel inv hlx (budget.trans_le same.budget) (fun n h => ?_) (fun hmono h => ?_)
  all_goals obtain still | ⟨-, -, clocked⟩ := dot.bg_cases
  · exact (same.bg.trans still).onPace (State.onPace_mono (Nat.le_succ n) h)
  · have start : u.stage1Start.queueInv := same.inv.queue
    have pace : u.stage1Start.onPace n := same.bg.onPace h
    exact clocked.onPace ((State.bgStep_dot start).pace n pace)
  · exact (same.bg.trans still).plainBg h
  · have start : u.stage1Start.queueInv := same.inv.queue
    have plain : u.stage1Start.plainBg := same.bg.plainBg h
    have mono : u.stage1Start.cfg.cgbMode = false := (congrArg Parameters.cgbMode same.cfg).trans hmono
    exact clocked.plainBg ((State.bgStep_dot start).plainBg mono plain)

/-- A popped pixel leaves the bounds of the queues and moves the cursor. -/
theorem State.mixPixel_queueInv {s : State} {b : Pixel} {rest : List Pixel} (h : s.queueInv) (hlx : s.lx < 160)
    (queue : s.bg.queue = b :: rest) : (s.mixPixel b rest).queueInv := by
  obtain ⟨hq, hsq, -, hstage, hdot, hstall, hbytes, hdiscard⟩ := h
  refine ⟨?_, ?_, hlx, hstage, hdot, hstall, hbytes, fun hd => ?_⟩
  · rw [queue, List.length_cons] at hq; exact (Nat.le_succ _).trans hq
  · exact (List.length_tail.trans_le (Nat.sub_le _ _)).trans hsq
  · simp [queue] at hdiscard; simp [State.mixPixel, hdiscard] at hd

/-- Neither the Background Fetcher nor the Mixer changes what is left of the sprites; only the cursor may leave column 0. -/
theorem State.spriteBudget_le_of_line {s t : State} (hsp : t.sp = { s.sp with queue := t.sp.queue })
    (hlx : t.lx = s.lx ∨ t.lx ≠ 0) : t.spriteBudget ≤ s.spriteBudget := by
  unfold State.spriteBudget State.undone State.fetchDotsLeft
  rw [hsp]
  obtain hlx | hlx := hlx
  · rw [hlx]
  · simp [hlx]

theorem State.spriteInv_of_line {s t : State} (hsp : t.sp = { s.sp with queue := t.sp.queue }) (h : s.spriteInv) :
    t.spriteInv := by
  unfold State.spriteInv at *; rwa [hsp]

/-- A dot that passes through to the Background Fetcher and the Mixer. -/
theorem DrawStep.of_pass {s u : State} (same : SameDot s u) (idle : u.sp.stage = .idle) (hlx : s.lx ≠ 160) :
    DrawStep s u.bgStep.mixStep := by
  have dot := State.bgStep_dot same.inv.queue
  have bounds := State.bgStep_queueInv same.inv.queue
  have screen := same.inv.queue.lx_le
  have hdiscard := same.inv.queue.queue_of_discard
  have sprites : u.bgStep.sp = u.sp := u.bgStep_sp
  have cursor : u.bgStep.lx = s.lx := u.bgStep_lx.trans same.lx
  have pace : ∀ n, s.onPace n → u.bgStep.onPace (n + 1) := fun n h => dot.pace n (same.bg.onPace h)
  have plain : s.cfg.cgbMode = false → s.plainBg → u.bgStep.plainBg := fun hmono h =>
    dot.plainBg ((congrArg Parameters.cgbMode same.cfg).trans hmono) (same.bg.plainBg h)
  have before := same.budget
  have mix := u.bgStep.mixStep_cases
  generalize u.bgStep.mixStep = t at mix ⊢
  generalize u.bgStep = v at *
  cases mix with
  | starved few =>
    have starve := dot.starveBudget_lt hdiscard few
    have line : t.sp = { u.sp with queue := t.sp.queue } := by rw [sprites]
    have budget := State.spriteBudget_le_of_line line (.inl (cursor.trans same.lx.symm))
    refine .of_noPixel ⟨bounds, State.spriteInv_of_line line same.inv.sprite, fun h1 => ?_⟩ cursor ?_ pace plain
    · rw [sprites, idle] at h1; cases h1
    · unfold State.stallBudget at *; omega
  | pops b rest queue many =>
    have line : (v.mixPixel b rest).sp = { u.sp with queue := (v.mixPixel b rest).sp.queue } := by rw [← sprites]; rfl
    have moved : (v.mixPixel b rest).lx = s.lx + 1 := congrArg (· + 1) cursor
    have screen : s.lx < 160 := by rw [same.lx] at screen; omega
    have starve : (v.mixPixel b rest).starveBudget ≤ u.starveBudget :=
      dot.starveBudget_le hdiscard many (rest := rest) (by rw [queue, List.length_cons]) rfl
    have budget := State.spriteBudget_le_of_line line (.inr (by omega))
    refine ⟨⟨State.mixPixel_queueInv bounds (by omega) queue, State.spriteInv_of_line line same.inv.sprite, fun h1 => ?_⟩,
      ?_, fun n h => ?_, fun hmono h => ?_⟩
    · rw [line] at h1; dsimp only at h1; rw [idle] at h1; cases h1
    · rw [State.drawBudget_eq, State.drawBudget_eq, moved]; unfold State.stallBudget at *; omega
    · unfold State.linePace at *
      rw [moved, if_neg (Nat.succ_ne_zero _)]
      split_ifs at h with h0
      · have ⟨filled, spent⟩ := pace n h
        omega
      · omega
    · obtain ⟨attr, pixels⟩ := plain hmono h
      exact ⟨attr, fun p hp => pixels p (by rw [queue]; exact List.mem_cons_of_mem b hp)⟩

/-- A dot of DRAW with pixels left to output. -/
theorem State.drawDot_step {s : State} (h : s.FetchersInv) (hlx : s.lx ≠ 160) : DrawStep s s.drawDot := by
  have due := State.deliverIfDue_sameDot h
  have step := s.spriteStep_cases
  unfold State.drawDot
  rw [if_neg hlx]
  generalize s.spriteStep = answer at step ⊢
  cases step with
  | pass idle => exact .of_pass due idle hlx
  | trigger idle first dot =>
    obtain ⟨e, he, hdone⟩ := firstAtCursor_some first
    exact .of_spriteDot (due.trans (State.beginFetch_sameDot due.inv idle he hdone)) nofun nofun dot
  | fetch run dot => exact .of_spriteDot due run s.deliverIfDue_stage_ne dot

end Sys2Proof.Machine
end

section
/-! PROOFS. The place of a dot in its frame (40_mode_controller.md R131 to R143) and the signals of its end (60_exceptions.md
R333, R336). Each mode's dot is one step of the frame; only the last H_BLANK dot of line 143 raises VBLANK_IRQ. -/

namespace Sys2Proof.Machine

/-! ### Fetchers and Mixer stay on the line -/

/-- The controller is on the same dot of the same line and mode: only the length trackers and the WX trigger differ. -/
def SameLine (s t : State) : Prop :=
  t.ctl = { s.ctl with drawLen := t.ctl.drawLen, hblankLen := t.ctl.hblankLen, wxTrigger := t.ctl.wxTrigger }

theorem SameLine.trans {s t u : State} (h : SameLine s t) (h' : SameLine t u) : SameLine s u := by
  unfold SameLine at *; rw [h', h]

theorem State.bgStep_sameLine (s : State) : SameLine s s.bgStep := by
  have entry : SameLine s s.windowEntryCheck := by
    unfold State.windowEntryCheck State.enterWindow
    split_ifs <;> rfl
  have work : SameLine s.windowEntryCheck s.bgStep := by
    unfold State.bgStep; dsimp only; split_ifs
    · rfl
    · rw [SameLine, State.bgStageDot_ctl]
  exact entry.trans work

theorem SpriteDot.sameLine {s t : State} (dot : SpriteDot s t) : SameLine s t := by
  cases dot with
  | abort | extra _ | stage2 _ _ | stage4 _ _ | stage5 _ _ => rfl
  | stage3 _ _ => unfold State.stage3Dot; dsimp only; split_ifs <;> rfl
  | stage1 _ _ =>
    have start : SameLine s s.stage1Start := rfl
    have clocked := start.trans s.stage1Start.bgStep_sameLine
    unfold State.stage1Dot
    dsimp only
    split_ifs
    · exact clocked
    · exact clocked
    · exact start
    · exact start

theorem State.spriteStep_sameLine (s : State) : SameLine s s.spriteStep.2 := by
  have due : SameLine s s.deliverIfDue := by unfold State.deliverIfDue; split_ifs <;> rfl
  have step := s.spriteStep_cases
  generalize s.spriteStep = answer at step ⊢
  cases step with
  | pass _ => exact due
  | @trigger i _ _ _ dot =>
    have begun : SameLine s (s.deliverIfDue.beginFetch i) := due
    exact begun.trans dot.sameLine
  | fetch _ dot => exact due.trans dot.sameLine

theorem State.mixStep_sameLine (s : State) : SameLine s s.mixStep := by
  have mix := s.mixStep_cases
  generalize s.mixStep = t at mix ⊢
  cases mix with
  | starved _ | pops _ _ _ _ => rfl

/-- A dot of DRAW with pixels left: a dot of a fetch, or one of the Background Fetcher and the Mixer. -/
theorem State.drawDot_cases {s : State} (hlx : s.lx ≠ 160) :
    s.drawDot = s.spriteStep.2 ∨ s.drawDot = s.spriteStep.2.bgStep.mixStep := by
  unfold State.drawDot
  rw [if_neg hlx]
  rcases s.spriteStep with ⟨_ | _, t⟩
  · exact .inr rfl
  · exact .inl rfl

theorem State.drawDot_sameLine {s : State} (hlx : s.lx ≠ 160) : SameLine s s.drawDot := by
  obtain h | h := State.drawDot_cases hlx <;> rw [h]
  · exact s.spriteStep_sameLine
  · exact s.spriteStep_sameLine.trans ((State.bgStep_sameLine _).trans (State.mixStep_sameLine _))

theorem State.drawDot_out_of_pixelsLeft {s : State} (hlx : s.lx ≠ 160) : s.drawDot.out = s.out := by
  obtain h | h := State.drawDot_cases hlx <;> simp [h]

/-! ### The signals of a frame's end -/

/-- The event has raised neither VBLANK_IRQ nor FRAME_READY beyond what `s` had. -/
def SameFrameSignals (s t : State) : Prop :=
  t.out.signals.vblankIrq = s.out.signals.vblankIrq ∧ t.out.signals.frameReady = s.out.signals.frameReady

theorem State.enterOamSearch_frameSignals (s : State) : SameFrameSignals s s.enterOamSearch := by
  unfold SameFrameSignals
  rw [State.enterOamSearch_signals]; split_ifs <;> exact ⟨rfl, rfl⟩

theorem State.enterHBlank_frameSignals (s : State) : SameFrameSignals s s.enterHBlank := by
  unfold SameFrameSignals
  rw [State.enterHBlank_signals]; split_ifs <;> exact ⟨rfl, rfl⟩

/-! ### The place in the frame, mode by mode -/

section
variable {s : State}

theorem State.frameDot_of_oamSearch (h : s.ctl.mode = .oamSearch) : s.frameDot = 456 * s.ctl.ly.toNat + s.ctl.modeDot := by
  simp [State.frameDot, State.lineDot, h]
theorem State.frameDot_of_draw (h : s.ctl.mode = .draw) : s.frameDot = 456 * s.ctl.ly.toNat + (80 + s.ctl.modeDot) := by
  simp [State.frameDot, State.lineDot, h]
theorem State.frameDot_of_hBlank (h : s.ctl.mode = .hBlank) :
    s.frameDot = 456 * s.ctl.ly.toNat + (80 + s.ctl.drawLen + s.ctl.modeDot) := by
  simp [State.frameDot, State.lineDot, h]
theorem State.frameDot_of_vBlank (h : s.ctl.mode = .vBlank) : s.frameDot = 456 * s.ctl.ly.toNat + s.ctl.modeDot % 456 := by
  simp [State.frameDot, State.lineDot, h]

theorem State.lineInv_of_oamSearch (h : s.ctl.mode = .oamSearch) (en : s.lcdEn = true) :
    s.lineInv ↔ s.ctl.ly.toNat ≤ 143 ∧ s.ctl.modeDot < 80 := by
  simp [State.lineInv, h, en]
theorem State.lineInv_of_draw (h : s.ctl.mode = .draw) (en : s.lcdEn = true) :
    s.lineInv ↔ s.ctl.ly.toNat ≤ 143 ∧ s.ctl.modeDot ≤ 375 := by
  simp [State.lineInv, h, en]
theorem State.lineInv_of_hBlank (h : s.ctl.mode = .hBlank) (en : s.lcdEn = true) :
    s.lineInv ↔ s.ctl.ly.toNat ≤ 143 ∧ s.ctl.modeDot < s.ctl.hblankLen ∧ s.ctl.drawLen + s.ctl.hblankLen = 376 := by
  simp [State.lineInv, h, en]
theorem State.lineInv_of_vBlank (h : s.ctl.mode = .vBlank) (en : s.lcdEn = true) :
    s.lineInv ↔ s.ctl.modeDot < 4560 ∧ s.ctl.ly.toNat = 144 + s.ctl.modeDot / 456 := by
  simp [State.lineInv, h, en]

end

/-! ### One dot of a frame -/

/-- The frame's last visible dot: the H_BLANK dot that ends line 143 (R333). -/
def lastVisibleDot : Nat := 65663

/-- What a dot of the controller does to the place in the frame and to the signals of the frame's end. -/
structure FrameStep (s t : State) : Prop where
  frameDot : t.frameDot = (s.frameDot + 1) % 70224
  lineInv : t.lineInv
  vblankIrq : t.out.signals.vblankIrq = (s.out.signals.vblankIrq || s.frameDot == lastVisibleDot)
  frameReady : t.out.signals.frameReady = (s.out.signals.frameReady || s.frameDot == lastVisibleDot)

/-- A dot that is not the last visible one raises neither signal. -/
theorem FrameStep.of_notLast {s t : State} (frameDot : t.frameDot = (s.frameDot + 1) % 70224) (lineInv : t.lineInv)
    (notLast : s.frameDot ≠ lastVisibleDot) (signals : SameFrameSignals s t) : FrameStep s t := by
  refine ⟨frameDot, lineInv, ?_, ?_⟩ <;> simp [notLast, signals.1, signals.2]

/-- The block copy of an H_BLANK dot leaves the controller but for its own flag (R244). -/
theorem State.vdmaHblankCopy_ctl (s : State) :
    s.vdmaHblankCopy.ctl = { s.ctl with hblankCopied := s.vdmaHblankCopy.ctl.hblankCopied } := by
  unfold State.vdmaHblankCopy State.hblankCopy
  split_ifs
  · dsimp only; split_ifs <;> simp
  · rfl

/-- The beginning of the next line, before the mode it begins in is entered (R139). -/
def State.nextLine (s : State) : State := { s with ctl := { s.ctl with
  winLine := if s.bg.inWindow then s.ctl.winLine + 1#8 else s.ctl.winLine
  ly := s.ctl.ly + 1#8 } }

theorem State.endOfLine_of_last {s : State} (h : s.ctl.ly.toNat = 143) : s.endOfLine = s.nextLine.enterVBlank :=
  if_pos (by rw [← BitVec.toNat_inj]; simp [h])

theorem State.endOfLine_of_notLast {s : State} (h : s.ctl.ly.toNat < 143) : s.endOfLine = s.nextLine.enterOamSearch :=
  if_neg fun hly => by
    have := congrArg BitVec.toNat hly
    simp at this; omega

/-- The state on which the controller does the work of a dot (R131). -/
def State.nextDot (s : State) : State := { s with ctl := { s.ctl with modeDot := s.ctl.modeDot + 1 } }

/-- The dot of the mode that holds at its start (R131). -/
inductive ControllerCase (s : State) : State → Prop
  | oamSearch (mode : s.ctl.mode = .oamSearch) : ControllerCase s s.nextDot.oamSearchDot
  | draw (mode : s.ctl.mode = .draw) : ControllerCase s s.nextDot.drawDot
  | hBlank (mode : s.ctl.mode = .hBlank) : ControllerCase s s.nextDot.hblankDot
  | vBlank (mode : s.ctl.mode = .vBlank) : ControllerCase s s.nextDot.vblankDot

theorem State.controllerStep_cases (s : State) : ControllerCase s s.controllerStep := by
  cases hmode : s.ctl.mode with
  | oamSearch => rw [s.controllerStep_oamSearch hmode]; exact .oamSearch hmode
  | draw => rw [s.controllerStep_draw hmode]; exact .draw hmode
  | hBlank => rw [s.controllerStep_hBlank hmode]; exact .hBlank hmode
  | vBlank => rw [s.controllerStep_vBlank hmode]; exact .vBlank hmode

section
variable {s : State} (en : s.lcdEn = true) (h : s.lineInv)
include en h

/-- A dot of OAM_SEARCH; the 80th leads to DRAW (R133). -/
theorem State.oamSearchDot_frameStep (hmode : s.ctl.mode = .oamSearch) : FrameStep s s.nextDot.oamSearchDot := by
  obtain ⟨hly, hdot⟩ := (State.lineInv_of_oamSearch hmode en).1 h
  have before := State.frameDot_of_oamSearch hmode
  have signals : SameFrameSignals s s.nextDot.oamSearchDot := by rw [SameFrameSignals, State.oamSearchDot_out]; exact ⟨rfl, rfl⟩
  have en' : s.nextDot.oamSearchDot.lcdEn = true := by rwa [State.lcdEn, State.oamSearchDot_reg]
  have notLast : s.frameDot ≠ lastVisibleDot := by rw [before, lastVisibleDot]; omega
  by_cases hend : s.ctl.modeDot + 1 = 80
  · have ht : s.nextDot.oamSearchDot = s.nextDot.collectSprites.enterDraw := if_pos hend
    rw [ht] at signals en' ⊢
    refine .of_notLast ?_ ((State.lineInv_of_draw rfl en').2 ⟨hly, Nat.zero_le _⟩) notLast signals
    rw [before, State.frameDot_of_draw rfl]
    show 456 * s.ctl.ly.toNat + (80 + 0) = _
    omega
  · have ht : s.nextDot.oamSearchDot = s.nextDot := if_neg hend
    rw [ht] at signals en' ⊢
    have hmode' : s.nextDot.ctl.mode = .oamSearch := hmode
    have hdot' : s.ctl.modeDot + 1 < 80 := by omega
    refine .of_notLast ?_ ((State.lineInv_of_oamSearch hmode' en').2 ⟨hly, hdot'⟩) notLast signals
    rw [before, State.frameDot_of_oamSearch hmode']
    show 456 * s.ctl.ly.toNat + (s.ctl.modeDot + 1) = _
    omega

/-- A dot of DRAW; the one that finds every pixel output leads to H_BLANK (R135). -/
theorem State.drawDot_frameStep (hmode : s.ctl.mode = .draw) (hover : s.ctl.modeDot < 375) : FrameStep s s.nextDot.drawDot := by
  obtain ⟨hly, -⟩ := (State.lineInv_of_draw hmode en).1 h
  have before := State.frameDot_of_draw hmode
  have en' : s.nextDot.drawDot.lcdEn = true := by rwa [State.lcdEn, State.drawDot_reg]
  have notLast : s.frameDot ≠ lastVisibleDot := by rw [before, lastVisibleDot]; omega
  by_cases hlx : s.lx = 160
  · have ht : s.nextDot.drawDot = s.nextDot.endDraw := if_pos hlx
    rw [ht] at en' ⊢
    have hctl := State.enterHBlank_ctl { s.nextDot with ctl := { s.nextDot.ctl with
      drawLen := s.ctl.modeDot + 1, hblankLen := 376 - (s.ctl.modeDot + 1) } }
    have signals : SameFrameSignals s s.nextDot.endDraw := State.enterHBlank_frameSignals _
    change s.nextDot.endDraw.ctl = _ at hctl
    have hmode' : s.nextDot.endDraw.ctl.mode = .hBlank := by rw [hctl]
    refine .of_notLast ?_ ((State.lineInv_of_hBlank hmode' en').2 ?_) notLast signals
    · rw [before, State.frameDot_of_hBlank hmode', hctl]
      show 456 * s.ctl.ly.toNat + (80 + (s.ctl.modeDot + 1) + 0) = _
      omega
    · rw [hctl]
      show s.ctl.ly.toNat ≤ 143 ∧ 0 < 376 - (s.ctl.modeDot + 1) ∧ s.ctl.modeDot + 1 + (376 - (s.ctl.modeDot + 1)) = 376
      omega
  · have line := State.drawDot_sameLine (s := s.nextDot) hlx
    have out := State.drawDot_out_of_pixelsLeft (s := s.nextDot) hlx
    have signals : SameFrameSignals s s.nextDot.drawDot := by rw [SameFrameSignals, out]; exact ⟨rfl, rfl⟩
    have hmode' : s.nextDot.drawDot.ctl.mode = .draw := by rw [line]; exact hmode
    refine .of_notLast ?_ ((State.lineInv_of_draw hmode' en').2 ?_) notLast signals
    · rw [before, State.frameDot_of_draw hmode', line]
      show 456 * s.ctl.ly.toNat + (80 + (s.ctl.modeDot + 1)) = _
      omega
    · have hdot' : s.ctl.modeDot + 1 ≤ 375 := hover
      rw [line]; exact ⟨hly, hdot'⟩

/-- The end of a line, reached on its 456th dot: line 143 enters VBLANK and raises both signals (R139, R140). -/
theorem State.endOfLine_frameStep (hmode : s.ctl.mode = .hBlank) (hend : s.ctl.modeDot + 1 = s.ctl.hblankLen) {u : State}
    (line : u.ctl.ly = s.ctl.ly) (out : u.out = s.out) (enU : u.lcdEn = true) : FrameStep s u.endOfLine := by
  obtain ⟨hly, hdot, hlen⟩ := (State.lineInv_of_hBlank hmode en).1 h
  have before := State.frameDot_of_hBlank hmode
  have en' : u.endOfLine.lcdEn = true := by rwa [State.lcdEn, State.endOfLine_reg]
  have next : (u.ctl.ly + 1#8).toNat = s.ctl.ly.toNat + 1 := by rw [line, BitVec.toNat_add]; simp; omega
  obtain hlast | hnot : s.ctl.ly.toNat = 143 ∨ s.ctl.ly.toNat < 143 := by omega
  · rw [State.endOfLine_of_last (by rwa [line])] at en' ⊢
    have hmode' : u.nextLine.enterVBlank.ctl.mode = .vBlank := by rw [State.enterVBlank_ctl]
    have signals := u.nextLine.enterVBlank_signals
    have isLast : s.frameDot = lastVisibleDot := by rw [before, lastVisibleDot]; omega
    refine ⟨?_, (State.lineInv_of_vBlank hmode' en').2 ?_, by simp [signals, isLast], by simp [signals, isLast]⟩
    · rw [isLast, State.frameDot_of_vBlank hmode', State.enterVBlank_ctl, lastVisibleDot]
      show 456 * (u.ctl.ly + 1#8).toNat + 0 % 456 = _
      omega
    · rw [State.enterVBlank_ctl]
      show 0 < 4560 ∧ (u.ctl.ly + 1#8).toNat = 144 + 0 / 456
      omega
  · rw [State.endOfLine_of_notLast (by rwa [line])] at en' ⊢
    have hmode' : u.nextLine.enterOamSearch.ctl.mode = .oamSearch := by rw [State.enterOamSearch_ctl]
    have signals : SameFrameSignals s u.nextLine.enterOamSearch := by
      rw [SameFrameSignals, ← out]; exact u.nextLine.enterOamSearch_frameSignals
    have notLast : s.frameDot ≠ lastVisibleDot := by rw [before, lastVisibleDot]; omega
    refine .of_notLast ?_ ((State.lineInv_of_oamSearch hmode' en').2 ?_) notLast signals
    · rw [before, State.frameDot_of_oamSearch hmode', State.enterOamSearch_ctl]
      show 456 * (u.ctl.ly + 1#8).toNat + 0 = _
      omega
    · rw [State.enterOamSearch_ctl]
      show (u.ctl.ly + 1#8).toNat ≤ 143 ∧ 0 < 80
      omega

/-- A dot of H_BLANK; its last one ends the line (R138). -/
theorem State.hblankDot_frameStep (hmode : s.ctl.mode = .hBlank) : FrameStep s s.nextDot.hblankDot := by
  obtain ⟨hly, hdot, hlen⟩ := (State.lineInv_of_hBlank hmode en).1 h
  have before := State.frameDot_of_hBlank hmode
  have hctl := s.nextDot.vdmaHblankCopy_ctl
  have out : s.nextDot.vdmaHblankCopy.out = s.out := s.nextDot.vdmaHblankCopy_out
  have en' : s.nextDot.vdmaHblankCopy.lcdEn = true := by rwa [State.lcdEn, State.vdmaHblankCopy_reg]
  unfold State.hblankDot
  dsimp only
  generalize s.nextDot.vdmaHblankCopy = u at *
  have last : u.ctl.modeDot = u.ctl.hblankLen ↔ s.ctl.modeDot + 1 = s.ctl.hblankLen := by rw [hctl]; rfl
  split_ifs with hend <;> rw [last] at hend
  · exact State.endOfLine_frameStep en h hmode hend (by rw [hctl]; rfl) out en'
  · have hmode' : u.ctl.mode = .hBlank := by rw [hctl]; exact hmode
    have signals : SameFrameSignals s u := by rw [SameFrameSignals, out]; exact ⟨rfl, rfl⟩
    have notLast : s.frameDot ≠ lastVisibleDot := by rw [before, lastVisibleDot]; omega
    refine .of_notLast ?_ ((State.lineInv_of_hBlank hmode' en').2 ?_) notLast signals
    · rw [before, State.frameDot_of_hBlank hmode', hctl]
      show 456 * s.ctl.ly.toNat + (80 + s.ctl.drawLen + (s.ctl.modeDot + 1)) = _
      omega
    · rw [hctl]
      show s.ctl.ly.toNat ≤ 143 ∧ s.ctl.modeDot + 1 < s.ctl.hblankLen ∧ s.ctl.drawLen + s.ctl.hblankLen = 376
      omega

/-- The beginning of a frame, before OAM_SEARCH is entered (R141). -/
def State.nextFrame (s : State) : State :=
  { s with ctl := { s.ctl with ly := 0#8, winLine := 0#8, drawLen := 172, hblankLen := 204 } }

/-- A dot of VBLANK: every 456th begins a line, the 4560th the next frame (R141). -/
theorem State.vblankDot_frameStep (hmode : s.ctl.mode = .vBlank) : FrameStep s s.nextDot.vblankDot := by
  obtain ⟨hdot, hly⟩ := (State.lineInv_of_vBlank hmode en).1 h
  have before := State.frameDot_of_vBlank hmode
  have notLast : s.frameDot ≠ lastVisibleDot := by rw [before, lastVisibleDot]; omega
  have en' : s.nextDot.vblankDot.lcdEn = true := by rwa [State.lcdEn, State.vblankDot_reg]
  have goesOn : ∀ t : State, t.lcdEn = true → t.ctl.mode = .vBlank → t.ctl.modeDot = s.ctl.modeDot + 1 → t.out = s.out →
      s.ctl.modeDot + 1 ≠ 4560 → t.ctl.ly.toNat = 144 + (s.ctl.modeDot + 1) / 456 → FrameStep s t := by
    intro t enT hmode' dot out hend line
    refine .of_notLast ?_ ((State.lineInv_of_vBlank hmode' enT).2 ?_) notLast (by rw [SameFrameSignals, out]; exact ⟨rfl, rfl⟩)
    · rw [before, State.frameDot_of_vBlank hmode', dot, line]; omega
    · rw [dot, line]; omega
  by_cases hend : s.ctl.modeDot + 1 = 4560
  · have ht : s.nextDot.vblankDot = s.nextDot.nextFrame.enterOamSearch := if_pos hend
    rw [ht] at en' ⊢
    have hmode' : s.nextDot.nextFrame.enterOamSearch.ctl.mode = .oamSearch := by rw [State.enterOamSearch_ctl]
    have place : s.nextDot.nextFrame.enterOamSearch.ctl.ly.toNat = 0 ∧ s.nextDot.nextFrame.enterOamSearch.ctl.modeDot = 0 := by
      rw [State.enterOamSearch_ctl]; exact ⟨rfl, rfl⟩
    refine .of_notLast ?_ ((State.lineInv_of_oamSearch hmode' en').2 (by omega)) notLast
      s.nextDot.nextFrame.enterOamSearch_frameSignals
    rw [before, State.frameDot_of_oamSearch hmode']
    omega
  by_cases hline : (s.ctl.modeDot + 1) % 456 = 0
  · have ht : s.nextDot.vblankDot = { s.nextDot with ctl := { s.nextDot.ctl with ly := s.ctl.ly + 1#8 } } :=
      (if_neg hend).trans (if_pos hline)
    have next : (s.ctl.ly + 1#8).toNat = s.ctl.ly.toNat + 1 := by rw [BitVec.toNat_add]; simp; omega
    rw [ht]
    exact goesOn _ en hmode rfl rfl hend (next.trans (by omega))
  · have ht : s.nextDot.vblankDot = s.nextDot := (if_neg hend).trans (if_neg hline)
    rw [ht]
    exact goesOn _ en hmode rfl rfl hend (hly.trans (by omega))

/-- One dot of the controller is one dot of the frame (R143). -/
theorem State.controllerStep_frameStep (hover : s.drawOverruns = false) : FrameStep s s.controllerStep := by
  have dot := s.controllerStep_cases
  generalize s.controllerStep = t at dot ⊢
  cases dot with
  | oamSearch mode => exact State.oamSearchDot_frameStep en h mode
  | draw mode =>
    have hdot : s.ctl.modeDot < 375 := by
      by_contra hge
      rw [(drawOverruns_iff s).2 ⟨en, mode, by omega⟩] at hover; cases hover
    exact State.drawDot_frameStep en h mode hdot
  | hBlank mode => exact State.hblankDot_frameStep en h mode
  | vBlank mode => exact State.vblankDot_frameStep en h mode

end

end Sys2Proof.Machine
end

section
/-! PROOFS. What a `TICK` keeps of the memories and the DMA engines (20_memory.md R70 to R81, 44_oam_dma.md, 45_vram_dma.md):
the canonical form and the cells of every memory, the counters of the engines, and in monochrome the reset values of color mode. -/

namespace Sys2Proof.Machine

/-! ### The copies, memory by memory -/

/-- The OAM DMA copy stores into `oam` alone (R231). -/
theorem State.oamDmaCopy_cells (s : State) {p : Space} (h : p ≠ .oam) : s.oamDmaCopy.mem.cells p = s.mem.cells p :=
  List.foldlRecOn (motive := fun t => t.mem.cells p = s.mem.cells p) _ State.oamDmaByte rfl fun _ ih _ _ =>
    (Memories.cells_store_other _ _ _ _ _ h).trans ih

theorem State.oamDmaCopy_fb (s : State) : s.oamDmaCopy.mem.fb = s.mem.fb :=
  List.foldlRecOn (motive := fun t => t.mem.fb = s.mem.fb) _ State.oamDmaByte rfl fun _ ih _ _ =>
    (Memories.store_fb _ _ _ _).trans ih

theorem State.blockBytes_fb (s : State) : s.blockBytes.mem.fb = s.mem.fb :=
  List.foldlRecOn (motive := fun t => t.mem.fb = s.mem.fb) _ State.vdmaByte rfl fun _ ih _ _ =>
    (Memories.store_fb _ _ _ _).trans ih

/-- The memory of the OAM DMA Engine's dot is what it was, or that of the copy. -/
theorem State.oamDmaTick_mem_cases (s : State) :
    s.oamDmaTick.mem = s.mem ∨ ∃ u : State, u.mem = s.mem ∧ s.oamDmaTick.mem = u.oamDmaCopy.mem := by
  unfold State.oamDmaTick
  dsimp only
  split_ifs
  · exact .inr ⟨{ s with odma := { s.odma with dots := s.odma.dots + 1 } }, rfl, by dsimp only⟩
  · exact .inl rfl
  · exact .inl rfl

theorem State.vdmaHblankCopy_mem_cases (s : State) :
    s.vdmaHblankCopy.mem = s.mem ∨ (s.hblankCopyDue = true ∧ s.vdmaHblankCopy.mem = s.blockBytes.mem) := by
  unfold State.vdmaHblankCopy State.hblankCopy
  split_ifs with hdue
  · dsimp only; split_ifs <;> simp [hdue]
  · exact .inl rfl

/-- The memory of a dot of DRAW is that of a Mixer step on the same line at the same cursor, or what it was. -/
theorem State.drawDot_mem_cases (s : State) : s.drawDot.mem = s.mem ∨
    ∃ u : State, s.lx ≠ 160 ∧ u.mem = s.mem ∧ u.ctl.ly = s.ctl.ly ∧ u.lx = s.lx ∧ s.drawDot.mem = u.mixStep.mem := by
  by_cases hlx : s.lx = 160
  · have ht : s.drawDot = s.endDraw := if_pos hlx
    exact .inl (by rw [ht, State.endDraw_mem])
  · obtain h | h := State.drawDot_cases hlx
    · exact .inl (by rw [h, State.spriteStep_mem])
    · have line := s.spriteStep_sameLine.trans (State.bgStep_sameLine _)
      exact .inr ⟨s.spriteStep.2.bgStep, hlx, by simp, by rw [line], by simp, by rw [h]⟩

/-! ### The canonical form and the framebuffer's cells -/

theorem State.drawDot_memInv {s : State} (h : s.memInv) : s.drawDot.memInv := by
  obtain hm | ⟨u, -, hu, -, -, hm⟩ := s.drawDot_mem_cases
  · exact (State.memInv_congr _ _ hm).2 h
  · exact (State.memInv_congr _ _ hm).2 (State.mixStep_memInv u ((State.memInv_congr _ _ hu).2 h))

@[simp] theorem State.hblankDot_mem (s : State) : s.hblankDot.mem = s.vdmaHblankCopy.mem := by
  unfold State.hblankDot; dsimp only; split_ifs <;> simp

@[simp] theorem State.hblankDot_vdma (s : State) : s.hblankDot.vdma = s.vdmaHblankCopy.vdma := by
  unfold State.hblankDot; dsimp only; split_ifs <;> simp

theorem State.hblankDot_memInv {s : State} (h : s.memInv) : s.hblankDot.memInv := by
  rw [State.memInv_congr _ _ s.hblankDot_mem]
  obtain hm | ⟨-, hm⟩ := s.vdmaHblankCopy_mem_cases
  · exact (State.memInv_congr _ _ hm).2 h
  · exact (State.memInv_congr _ _ hm).2 (State.blockBytes_memInv s h)

theorem State.controllerStep_memInv {s : State} (h : s.memInv) : s.controllerStep.memInv := by
  have dot := s.controllerStep_cases
  generalize s.controllerStep = t at dot ⊢
  cases dot with
  | oamSearch _ => exact (State.memInv_congr _ _ (State.oamSearchDot_mem _)).2 h
  | draw _ => exact State.drawDot_memInv (s := s.nextDot) h
  | hBlank _ => exact State.hblankDot_memInv (s := s.nextDot) h
  | vBlank _ => exact (State.memInv_congr _ _ (State.vblankDot_mem _)).2 h

theorem State.oamDmaTick_memInv {s : State} (h : s.memInv) : s.oamDmaTick.memInv := by
  obtain hm | ⟨u, hu, hm⟩ := s.oamDmaTick_mem_cases
  · exact (State.memInv_congr _ _ hm).2 h
  · exact (State.memInv_congr _ _ hm).2 (State.oamDmaCopy_memInv u ((State.memInv_congr _ _ hu).2 h))

theorem State.drawDot_fbInv {s : State} (h : s.fbInv) (hly : s.ctl.ly.toNat ≤ 143) (hlx : s.lx ≤ 160) : s.drawDot.fbInv := by
  obtain hm | ⟨u, hne, hu, line, cursor, hm⟩ := s.drawDot_mem_cases
  · exact (State.fbInv_congr _ _ (by rw [hm])).2 h
  · have hfb : u.fbInv := (State.fbInv_congr _ _ (by rw [hu])).2 h
    exact (State.fbInv_congr _ _ (by rw [hm])).2 (State.mixStep_fbInv u hfb (by rw [line]; omega) (by omega))

theorem State.hblankDot_fb (s : State) : s.hblankDot.mem.fb = s.mem.fb := by
  rw [State.hblankDot_mem]
  obtain hm | ⟨-, hm⟩ := s.vdmaHblankCopy_mem_cases <;> rw [hm]
  exact s.blockBytes_fb

theorem State.controllerStep_fbInv {s : State} (h : s.fbInv) (en : s.lcdEn = true) (hline : s.lineInv) (hq : s.queueInv) :
    s.controllerStep.fbInv := by
  have dot := s.controllerStep_cases
  generalize s.controllerStep = t at dot ⊢
  cases dot with
  | oamSearch _ => exact (State.fbInv_congr _ _ (by rw [State.oamSearchDot_mem]; rfl)).2 h
  | draw mode => exact State.drawDot_fbInv (s := s.nextDot) h ((State.lineInv_of_draw mode en).1 hline).1 hq.lx_le
  | hBlank _ => exact (State.fbInv_congr _ _ (State.hblankDot_fb s.nextDot)).2 h
  | vBlank _ => exact (State.fbInv_congr _ _ (by rw [State.vblankDot_mem]; rfl)).2 h

theorem State.oamDmaTick_fbInv {s : State} (h : s.fbInv) : s.oamDmaTick.fbInv := by
  obtain hm | ⟨u, hu, hm⟩ := s.oamDmaTick_mem_cases
  · exact (State.fbInv_congr _ _ (by rw [hm])).2 h
  · exact (State.fbInv_congr _ _ (by rw [hm, State.oamDmaCopy_fb, hu])).2 h

/-! ### The engines' counters -/

/-- The OAM DMA Engine's part of `dmaInv`. -/
def State.odmaInv (s : State) : Prop :=
  s.odma.dots ≤ 640 ∧ (s.odma.active = true → s.odma.dots < 640) ∧ s.odma.src.toNat % 256 = 0

/-- The VRAM DMA Engine's part of `dmaInv`. -/
def State.vdmaInv (s : State) : Prop :=
  (0x8000 ≤ s.vdma.dst.toNat ∧ s.vdma.dst.toNat ≤ 0x9FFF ∧ s.vdma.dst.toNat % 16 = 0 ∧ s.vdma.src.toNat % 16 = 0) ∧
  s.vdma.blocks ≤ 128 ∧
  (s.vdma.mode = .hblank → s.vdma.blocks = s.vdma.len.toNat + 1) ∧
  (s.vdma.mode = .general → s.vdma.blocks = 0 ∧ s.vdma.dots < s.vdma.threshold)

theorem State.dmaInv_iff (s : State) : s.dmaInv ↔ s.odmaInv ∧ s.vdmaInv := Iff.rfl

theorem State.odmaInv_congr {s t : State} (h : t.odma = s.odma) : t.odmaInv ↔ s.odmaInv := by unfold State.odmaInv; rw [h]

theorem State.vdmaInv_congr {s t : State} (h : t.vdma = s.vdma) : t.vdmaInv ↔ s.vdmaInv := by unfold State.vdmaInv; rw [h]

theorem State.oamDmaTick_odmaInv {s : State} (h : s.odmaInv) : s.oamDmaTick.odmaInv := by
  obtain ⟨hle, hact, hsrc⟩ := h
  unfold State.oamDmaTick
  dsimp only
  split_ifs with active due
  · refine ⟨?_, nofun, ?_⟩ <;> simp only [State.oamDmaCopy_odma]
    · exact due.le
    · exact hsrc
  · have := hact active
    exact ⟨this, fun _ => lt_of_le_of_ne this due, hsrc⟩
  · exact ⟨hle, hact, hsrc⟩

theorem State.vdmaComplete_vdmaInv {s : State}
    (h : 0x8000 ≤ s.vdma.dst.toNat ∧ s.vdma.dst.toNat ≤ 0x9FFF ∧ s.vdma.dst.toNat % 16 = 0 ∧ s.vdma.src.toNat % 16 = 0) :
    s.vdmaComplete.vdmaInv := ⟨h, Nat.zero_le _, nofun, nofun⟩

theorem State.vdmaTick_vdmaInv {s : State} (h : s.vdmaInv) : s.vdmaTick.vdmaInv := by
  obtain ⟨haddr, hblocks, hhblank, hgeneral⟩ := h
  unfold State.vdmaTick
  split
  · next general =>
    dsimp only
    generalize (if s.cfg.doubleSpeed = true then 1 else 2) = speed
    split_ifs with done
    · exact State.vdmaComplete_vdmaInv haddr
    · exact ⟨haddr, hblocks, hhblank, fun _ => ⟨(hgeneral general).1, Nat.lt_of_not_le done⟩⟩
  · exact ⟨haddr, hblocks, hhblank, hgeneral⟩

/-- A block moves both addresses on by 16; the destination stays in video memory (R246). -/
theorem copyBlock_addresses {src dst : Addr} (hdst : dst.toNat % 16 = 0) (hsrc : src.toNat % 16 = 0) :
    0x8000 ≤ (wrapVram (dst + 16#16)).toNat ∧ (wrapVram (dst + 16#16)).toNat ≤ 0x9FFF ∧
      (wrapVram (dst + 16#16)).toNat % 16 = 0 ∧ (src + 16#16).toNat % 16 = 0 := by
  rw [wrapVram_toNat, BitVec.toNat_add, BitVec.toNat_add]
  simp only [BitVec.toNat_ofNat]
  omega

theorem State.vdmaHblankCopy_vdmaInv {s : State} (h : s.vdmaInv) : s.vdmaHblankCopy.vdmaInv := by
  have ⟨⟨_, _, hdst, hsrc⟩, hblocks, hhblank, _⟩ := h
  have addr := copyBlock_addresses hdst hsrc
  unfold State.vdmaHblankCopy
  split_ifs with due
  · have mode : s.vdma.mode = .hblank := by simp [State.hblankCopyDue] at due; exact due.1
    have blocks := hhblank mode
    unfold State.hblankCopy
    simp only [State.copyBlock_vdma]
    split_ifs with last
    · exact State.vdmaComplete_vdmaInv addr
    · have left : s.vdma.blocks - 1 = (s.vdma.len - 1#7).toNat + 1 := by
        rw [BitVec.toNat_sub]; simp; omega
      exact ⟨addr, by dsimp only; omega, fun _ => left, fun hg => by dsimp only at hg; rw [mode] at hg; cases hg⟩
  · exact h

theorem State.controllerStep_vdmaInv {s : State} (h : s.vdmaInv) : s.controllerStep.vdmaInv := by
  have dot := s.controllerStep_cases
  generalize s.controllerStep = t at dot ⊢
  cases dot with
  | oamSearch _ => exact (State.vdmaInv_congr (State.oamSearchDot_vdma _)).2 h
  | draw _ => exact (State.vdmaInv_congr (State.drawDot_vdma _)).2 h
  | hBlank _ => exact (State.vdmaInv_congr (State.hblankDot_vdma _)).2 (State.vdmaHblankCopy_vdmaInv (s := s.nextDot) h)
  | vBlank _ => exact (State.vdmaInv_congr (State.vblankDot_vdma _)).2 h

/-! ### Monochrome -/

/-- Nothing of color mode has left its reset value (R249, R368). -/
def State.colorReset (s : State) : Prop :=
  s.reg.vbk = 0#1 ∧ s.reg.hdma1 = 0#8 ∧ s.reg.hdma2 = 0#8 ∧ s.reg.hdma3 = 0#8 ∧ s.reg.hdma4 = 0#8 ∧
  s.reg.bcpsIdx = 0#6 ∧ s.reg.bcpsInc = false ∧ s.reg.ocpsIdx = 0#6 ∧ s.reg.ocpsInc = false ∧
  s.vdma = VramDma.reset ∧ s.mem.cells .vram1 = [] ∧ s.mem.cells .bgpal = [] ∧ s.mem.cells .objpal = []

theorem State.monoInv_iff (s : State) : s.monoInv ↔ (s.cfg.cgbMode = false → s.colorReset ∧ s.plainBg) := by
  simp only [State.monoInv, State.colorReset, State.plainBg, Memories.cells, and_assoc]

theorem State.colorReset_idle {s : State} (h : s.colorReset) : s.vdma.mode = .idle := by
  obtain ⟨-, -, -, -, -, -, -, -, -, hvdma, -⟩ := h
  rw [hvdma]; rfl

theorem State.colorReset_of_eq {s t : State} (hreg : t.reg = s.reg) (hvdma : t.vdma = s.vdma)
    (hcells : ∀ p, p ≠ .oam → t.mem.cells p = s.mem.cells p) (h : s.colorReset) : t.colorReset := by
  unfold State.colorReset at *
  rwa [hreg, hvdma, hcells .vram1 nofun, hcells .bgpal nofun, hcells .objpal nofun]

theorem State.mixStep_cells (s : State) (p : Space) : s.mixStep.mem.cells p = s.mem.cells p := by
  have mix := s.mixStep_cases
  generalize s.mixStep = t at mix ⊢
  cases mix with
  | starved _ => rfl
  | pops _ _ _ _ => cases p <;> rfl

theorem State.drawDot_cells (s : State) (p : Space) : s.drawDot.mem.cells p = s.mem.cells p := by
  obtain hm | ⟨u, -, hu, -, -, hm⟩ := s.drawDot_mem_cases
  · rw [hm]
  · rw [hm, State.mixStep_cells, hu]

theorem State.oamDmaTick_cells (s : State) {p : Space} (h : p ≠ .oam) : s.oamDmaTick.mem.cells p = s.mem.cells p := by
  obtain hm | ⟨u, hu, hm⟩ := s.oamDmaTick_mem_cases
  · rw [hm]
  · rw [hm, State.oamDmaCopy_cells u h, hu]

/-- An idle VRAM DMA Engine copies no block in H_BLANK (R244). -/
theorem State.vdmaHblankCopy_of_idle {s : State} (h : s.vdma.mode = .idle) : s.vdmaHblankCopy = s :=
  if_neg (by simp [State.hblankCopyDue, h])

theorem State.controllerStep_colorReset {s : State} (h : s.colorReset) : s.controllerStep.colorReset := by
  have still : s.nextDot.vdmaHblankCopy = s.nextDot := State.vdmaHblankCopy_of_idle (State.colorReset_idle h)
  have dot := s.controllerStep_cases
  generalize s.controllerStep = t at dot ⊢
  cases dot with
  | oamSearch _ =>
    exact State.colorReset_of_eq (State.oamSearchDot_reg _) (State.oamSearchDot_vdma _) (fun p _ => by rw [State.oamSearchDot_mem]) h
  | draw _ => exact State.colorReset_of_eq (State.drawDot_reg _) (State.drawDot_vdma _) (fun p _ => State.drawDot_cells _ p) h
  | hBlank _ =>
    exact State.colorReset_of_eq (State.hblankDot_reg _) (by rw [State.hblankDot_vdma, still])
      (fun p _ => by rw [State.hblankDot_mem, still]) h
  | vBlank _ =>
    exact State.colorReset_of_eq (State.vblankDot_reg _) (State.vblankDot_vdma _) (fun p _ => by rw [State.vblankDot_mem]) h

theorem State.vdmaTick_of_idle {s : State} (h : s.vdma.mode = .idle) : s.vdmaTick = s :=
  if_neg (by simp [h])

/-! ### The whole dot -/

/-- An invariant that every phase of a dot keeps is kept by the dot (R130). -/
theorem State.dot_keeps {P : State → Prop} {s : State} (controller : P s → P s.controllerStep)
    (odma : ∀ t, P t → P t.oamDmaTick) (vdma : ∀ t, P t → P t.vdmaTick) (h : P s) : P s.dot := by
  have phase : P s.phase := by
    unfold State.phase
    split_ifs
    · exact controller h
    · exact h
  exact vdma _ (odma _ phase)

end Sys2Proof.Machine
end

section
/-! PROOFS. The renderer's invariants from dot to dot, mode by mode (40_mode_controller.md R133 to R142): DRAW begins with its
whole budget, spends one dot of it on each of its own, and so never reaches its 376th dot. -/

namespace Sys2Proof.Machine

/-! ### The sprites a line begins with -/

theorem insertSprite_perm (tb : TieBreak) (a : LineSprite) (l : List LineSprite) : (insertSprite tb a l).Perm (a :: l) := by
  induction l with
  | nil => exact .refl _
  | cons b l ih =>
    unfold insertSprite
    split_ifs
    · exact .refl _
    · exact (ih.cons b).trans (.swap a b l)

theorem sortSprites_perm (tb : TieBreak) (l : List LineSprite) : (sortSprites tb l).Perm l := by
  induction l with
  | nil => exact .refl _
  | cons a l ih => exact (insertSprite_perm tb a _).trans (ih.cons a)

theorem orderSprites_perm (p : Parameters) (l : List LineSprite) : (orderSprites p l).Perm l := by
  unfold orderSprites
  split_ifs
  · exact .refl _
  · exact sortSprites_perm _ l

/-- OAM search finds at most ten records, each of the 40, at a column of the screen or just right of it (R180, R182). -/
theorem State.foundSprites_bounds (s : State) :
    s.foundSprites.length ≤ 10 ∧ ∀ e ∈ s.foundSprites, e.idx < 40 ∧ e.sx ≤ 160 := by
  refine ⟨by simp [State.foundSprites], fun e he => ?_⟩
  obtain ⟨n, hn, rfl⟩ := List.mem_map.1 he
  have hn := List.mem_range.1 (List.mem_of_mem_filter (List.mem_of_mem_take hn))
  exact ⟨hn, Nat.min_le_left _ _⟩

theorem State.collectSprites_bounds (s : State) :
    s.collectSprites.sp.line.length ≤ 10 ∧ ∀ e ∈ s.collectSprites.sp.line, e.idx < 40 ∧ e.sx ≤ 160 := by
  have perm : s.collectSprites.sp.line.Perm s.foundSprites := orderSprites_perm s.cfg s.foundSprites
  obtain ⟨length, bounds⟩ := s.foundSprites_bounds
  exact ⟨perm.length_eq.trans_le length, fun e he => bounds e (perm.subset he)⟩

/-! ### The invariants of the renderer -/

/-- What the renderer keeps: the bounds of the fetchers, the length of DRAW, and in monochrome plain pixels. -/
structure State.RenderInv (s : State) : Prop where
  fetchers : s.FetchersInv
  draw : s.ctl.mode = .draw → s.ctl.modeDot + s.drawBudget ≤ 306 ∧ s.linePace s.ctl.modeDot
  hBlank : s.ctl.mode = .hBlank → 172 ≤ s.ctl.drawLen ∧ s.ctl.drawLen ≤ 306
  plain : s.cfg.cgbMode = false → s.plainBg

theorem State.FetchersInv.congr {s t : State} (h : s.FetchersInv) (hbg : t.bg = s.bg) (hsp : t.sp = s.sp) (hlx : t.lx = s.lx) :
    t.FetchersInv := by
  obtain ⟨queue, sprite, waits⟩ := h
  refine ⟨?_, ?_, ?_⟩
  · unfold State.queueInv; rwa [hbg, hsp, hlx]
  · unfold State.spriteInv; rwa [hsp]
  · unfold State.stage1Waits; rwa [hbg, hsp]

/-- The renderer outside DRAW, where it stands still. -/
theorem State.RenderInv.of_still {s t : State} (h : s.RenderInv) (hcfg : t.cfg = s.cfg) (hbg : t.bg = s.bg) (hsp : t.sp = s.sp)
    (hlx : t.lx = s.lx) (notDraw : t.ctl.mode ≠ .draw)
    (hBlank : t.ctl.mode = .hBlank → 172 ≤ t.ctl.drawLen ∧ t.ctl.drawLen ≤ 306) : t.RenderInv :=
  ⟨h.fetchers.congr hbg hsp hlx, fun hd => absurd hd notDraw, hBlank, fun hmono => by
    unfold State.plainBg; rw [hbg]; exact h.plain (by rwa [hcfg] at hmono)⟩

/-- DRAW begins with a budget of 306 dots (R134). -/
theorem State.enterDraw_drawBudget (s : State) : s.enterDraw.drawBudget = 196 + 11 * s.undone := by
  unfold State.drawBudget State.spriteBudget
  simp [State.enterDraw, State.starveBudget, State.fetchLeft, State.fetchSpent, State.undone, State.fetchDotsLeft]
  omega

theorem State.undone_le (s : State) : s.undone ≤ s.sp.line.length := List.length_filter_le _ _

theorem State.enterDraw_renderInv {s : State} (tileBytes : s.bg.tileBytes.length = 16) (length : s.sp.line.length ≤ 10)
    (bounds : ∀ e ∈ s.sp.line, e.idx < 40 ∧ e.sx ≤ 160) (plain : s.cfg.cgbMode = false → s.plainBg) : s.enterDraw.RenderInv := by
  have queue : s.enterDraw.queueInv :=
    ⟨Nat.zero_le _, Nat.zero_le _, Nat.zero_le _, nofun, Nat.zero_le _, rfl, tileBytes, fun _ => rfl⟩
  have sprite : s.enterDraw.spriteInv :=
    ⟨length, bounds, Nat.zero_le _, fun _ => rfl, fun _ => Nat.zero_le _, fun h => absurd rfl h⟩
  have undone := s.undone_le
  have budget := s.enterDraw_drawBudget
  refine ⟨⟨queue, sprite, nofun⟩, fun _ => ⟨?_, ?_⟩, nofun, fun hmono => ⟨(plain hmono).1, nofun⟩⟩
  · show 0 + s.enterDraw.drawBudget ≤ 306
    omega
  · exact ⟨Nat.zero_le _, Nat.zero_le _⟩

/-! ### Dot by dot -/

theorem State.endOfLine_mode (s : State) : s.endOfLine.ctl.mode = .vBlank ∨ s.endOfLine.ctl.mode = .oamSearch := by
  unfold State.endOfLine
  dsimp only
  split
  · exact .inl (by rw [State.enterVBlank_ctl])
  · exact .inr (by rw [State.enterOamSearch_ctl])

theorem State.vblankDot_mode {s : State} (mode : s.ctl.mode = .vBlank) :
    s.vblankDot.ctl.mode = .vBlank ∨ s.vblankDot.ctl.mode = .oamSearch := by
  unfold State.vblankDot
  split_ifs
  · exact .inr (by rw [State.enterOamSearch_ctl])
  · exact .inl mode
  · exact .inl mode

section
variable {s : State} (h : s.RenderInv)
include h

theorem State.oamSearchDot_renderInv (mode : s.ctl.mode = .oamSearch) : s.nextDot.oamSearchDot.RenderInv := by
  unfold State.oamSearchDot
  split_ifs
  · obtain ⟨-, -, -, -, -, -, tileBytes, -⟩ := h.fetchers.queue
    obtain ⟨length, bounds⟩ := s.nextDot.collectSprites_bounds
    exact State.enterDraw_renderInv tileBytes length bounds h.plain
  · exact h.of_still rfl rfl rfl rfl (by simp [State.nextDot, mode]) (by simp [State.nextDot, mode])

theorem State.drawDot_renderInv (mode : s.ctl.mode = .draw) : s.nextDot.drawDot.RenderInv := by
  obtain ⟨budget, pace⟩ := h.draw mode
  by_cases hlx : s.lx = 160
  · have ht : s.nextDot.drawDot = s.nextDot.endDraw := if_pos hlx
    have hctl : s.nextDot.endDraw.ctl.mode = .hBlank ∧ s.nextDot.endDraw.ctl.drawLen = s.ctl.modeDot + 1 := by
      unfold State.endDraw; rw [State.enterHBlank_ctl]; exact ⟨rfl, rfl⟩
    have spent : s.ctl.modeDot + 1 ≤ 306 := by unfold State.drawBudget at budget; omega
    have behind : 160 + 11 ≤ s.ctl.modeDot := by simpa [State.linePace, hlx] using pace
    rw [ht]
    refine h.of_still (State.endDraw_cfg _) (State.endDraw_bg _) (State.endDraw_sp _) (State.endDraw_lx _) (by simp [hctl]) fun _ => ?_
    rw [hctl.2]; omega
  · have step := State.drawDot_step (s := s.nextDot) (h.fetchers.congr rfl rfl rfl) hlx
    have line := State.drawDot_sameLine (s := s.nextDot) hlx
    have place : s.nextDot.drawDot.ctl.mode = .draw ∧ s.nextDot.drawDot.ctl.modeDot = s.ctl.modeDot + 1 := by
      rw [line]; exact ⟨mode, rfl⟩
    have less : s.nextDot.drawDot.drawBudget < s.drawBudget := step.budget
    refine ⟨step.inv, fun _ => ?_, fun hb => (by rw [place.1] at hb; cases hb), fun hmono => ?_⟩
    · rw [place.2]; exact ⟨by omega, step.pace _ pace⟩
    · have mono : s.nextDot.cfg.cgbMode = false := by rwa [State.drawDot_cfg] at hmono
      exact step.plain mono (h.plain mono)

theorem State.hblankDot_renderInv (mode : s.ctl.mode = .hBlank) : s.nextDot.hblankDot.RenderInv := by
  have still := h.of_still (t := s.nextDot.hblankDot) (State.hblankDot_cfg _) (State.hblankDot_bg _) (State.hblankDot_sp _)
    (State.hblankDot_lx _)
  have hctl := s.nextDot.vdmaHblankCopy_ctl
  unfold State.hblankDot at *
  dsimp only at *
  generalize s.nextDot.vdmaHblankCopy = u at *
  split_ifs at still ⊢
  · obtain hm | hm := u.endOfLine_mode <;> exact still (by simp [hm]) (by simp [hm])
  · have place : u.ctl.mode = .hBlank ∧ u.ctl.drawLen = s.ctl.drawLen := by rw [hctl]; exact ⟨mode, rfl⟩
    exact still (by simp [place]) fun _ => by rw [place.2]; exact h.hBlank mode

theorem State.vblankDot_renderInv (mode : s.ctl.mode = .vBlank) : s.nextDot.vblankDot.RenderInv := by
  have still := h.of_still (t := s.nextDot.vblankDot) (State.vblankDot_cfg _) (State.vblankDot_bg _) (State.vblankDot_sp _)
    (State.vblankDot_lx _)
  have modes := State.vblankDot_mode (s := s.nextDot) mode
  obtain hm | hm := modes <;> exact still (by simp [hm]) (by simp [hm])

theorem State.controllerStep_renderInv : s.controllerStep.RenderInv := by
  have dot := s.controllerStep_cases
  generalize s.controllerStep = t at dot ⊢
  cases dot with
  | oamSearch mode => exact State.oamSearchDot_renderInv h mode
  | draw mode => exact State.drawDot_renderInv h mode
  | hBlank mode => exact State.hblankDot_renderInv h mode
  | vBlank mode => exact State.vblankDot_renderInv h mode

/-- DRAW never reaches its 376th dot (R142). -/
theorem State.RenderInv.not_drawOverruns : s.drawOverruns = false := by
  by_contra hover
  obtain ⟨-, mode, hdot⟩ := (drawOverruns_iff s).1 (by simpa using hover)
  have := (h.draw mode).1
  omega

end

/-- The invariant depends on the renderer, the controller and the parameters alone. -/
theorem State.RenderInv.congr {s t : State} (h : s.RenderInv) (hcfg : t.cfg = s.cfg) (hctl : t.ctl = s.ctl) (hbg : t.bg = s.bg)
    (hsp : t.sp = s.sp) (hlx : t.lx = s.lx) : t.RenderInv := by
  obtain ⟨fetchers, draw, hBlank, plain⟩ := h
  refine ⟨fetchers.congr hbg hsp hlx, ?_, ?_, ?_⟩
  · unfold State.drawBudget State.starveBudget State.spriteBudget State.linePace State.onPace State.fetchLeft State.fetchSpent
      State.undone State.fetchDotsLeft
    rw [hctl, hbg, hsp, hlx]; exact draw
  · rwa [hctl]
  · unfold State.plainBg; rwa [hcfg, hbg]

end Sys2Proof.Machine
end

section
/-! PROOFS. VBLANK_IRQ once a frame (60_exceptions.md R333, R336). A `TICK` is one step of the frame and keeps every invariant,
so any number of them completes; over a frame's 70224 the dot that ends the visible lines comes up exactly once. -/

namespace Sys2Proof.Machine

/-! ### One `TICK` -/

theorem State.inv_iff (s : State) : s.inv ↔
    s.memInv ∧ s.fbInv ∧ s.lineInv ∧ s.dmaInv ∧ (s.cfg.cgbMode = false → s.colorReset) ∧ s.RenderInv := by
  unfold State.inv
  rw [State.monoInv_iff]
  constructor
  · rintro ⟨mem, fb, line, queue, sprite, dma, mono, draw, hBlank, waits⟩
    exact ⟨mem, fb, line, dma, fun hm => (mono hm).1, ⟨queue, sprite, waits⟩, draw, hBlank, fun hm => (mono hm).2⟩
  · rintro ⟨mem, fb, line, dma, color, ⟨⟨queue, sprite, waits⟩, draw, hBlank, plain⟩⟩
    exact ⟨mem, fb, line, queue, sprite, dma, fun hm => ⟨color hm, plain hm⟩, draw, hBlank, waits⟩

theorem State.inv.lineInv {s : State} (h : s.inv) : s.lineInv := h.2.2.1

theorem State.lineInv_congr {s t : State} (hctl : t.ctl = s.ctl) (hreg : t.reg = s.reg) : t.lineInv ↔ s.lineInv := by
  unfold State.lineInv State.lcdEn; rw [hctl, hreg]

theorem State.frameDot_congr {s t : State} (hctl : t.ctl = s.ctl) : t.frameDot = s.frameDot := by
  unfold State.frameDot State.lineDot; rw [hctl]

/-- The dot of the frame is below 154 lines of 456 (R143). -/
theorem State.frameDot_lt {s : State} (h : s.lineInv) (en : s.lcdEn = true) : s.frameDot < 70224 := by
  cases mode : s.ctl.mode with
  | oamSearch =>
    have := (State.lineInv_of_oamSearch mode en).1 h
    rw [State.frameDot_of_oamSearch mode]; omega
  | draw =>
    have := (State.lineInv_of_draw mode en).1 h
    rw [State.frameDot_of_draw mode]; omega
  | hBlank =>
    have := (State.lineInv_of_hBlank mode en).1 h
    rw [State.frameDot_of_hBlank mode]; omega
  | vBlank =>
    have := (State.lineInv_of_vBlank mode en).1 h
    rw [State.frameDot_of_vBlank mode]; omega

/-- What a `TICK` with the display on does to the place in the frame, the signals of its end and their counters. -/
structure FrameTick (s t : State) : Prop where
  lcdEn : t.lcdEn = true
  frameDot : t.frameDot = (s.frameDot + 1) % 70224
  lineInv : t.lineInv
  vblankIrq : t.out.signals.vblankIrq = (s.frameDot == lastVisibleDot)
  frameReady : t.out.signals.frameReady = (s.frameDot == lastVisibleDot)
  vblankIrqs : t.cnt.vblankIrq = s.cnt.vblankIrq + (s.frameDot == lastVisibleDot).toNat
  frameReadies : t.cnt.frameReady = s.cnt.frameReady + (s.frameDot == lastVisibleDot).toNat

theorem exec_tick_frameTick {s t : State} (h : s.lineInv) (en : s.lcdEn = true) (ht : exec .tick s = .next t) : FrameTick s t := by
  obtain ⟨hover, rfl⟩ := (exec_tick_next s t).1 ht
  have step : FrameStep s.quiet s.quiet.controllerStep := State.controllerStep_frameStep (s := s.quiet) en h hover
  have phase : s.quiet.phase = s.quiet.controllerStep := if_pos en
  have ctl : s.quiet.dot.countSignals.ctl = s.quiet.controllerStep.ctl := by rw [← phase]; exact s.quiet.dot_ctl
  have out : s.quiet.dot.out = s.quiet.controllerStep.out := by rw [← phase]; exact s.quiet.dot_out
  have vblankIrq : s.quiet.dot.out.signals.vblankIrq = (s.frameDot == lastVisibleDot) := by rw [out, step.vblankIrq]; rfl
  have frameReady : s.quiet.dot.out.signals.frameReady = (s.frameDot == lastVisibleDot) := by rw [out, step.frameReady]; rfl
  refine ⟨?_, (State.frameDot_congr ctl).trans step.frameDot, (State.lineInv_congr ctl ?_).2 step.lineInv, vblankIrq,
    frameReady, ?_, ?_⟩
  · rw [State.lcdEn, State.countSignals_reg, State.dot_reg]; exact en
  · simp
  · rw [State.countSignals_cnt, vblankIrq, State.dot_cnt]; rfl
  · rw [State.countSignals_cnt, frameReady, State.dot_cnt]; rfl

theorem State.dot_memInv {s : State} (h : s.memInv) : s.dot.memInv :=
  State.dot_keeps (P := State.memInv) State.controllerStep_memInv (fun _ => State.oamDmaTick_memInv)
    (fun t => (State.memInv_congr _ _ t.vdmaTick_mem).2) h

theorem State.dot_fbInv {s : State} (h : s.fbInv) (en : s.lcdEn = true) (line : s.lineInv) (queue : s.queueInv) : s.dot.fbInv :=
  State.dot_keeps (P := State.fbInv) (fun h => State.controllerStep_fbInv h en line queue) (fun _ => State.oamDmaTick_fbInv)
    (fun t => (State.fbInv_congr _ _ (congrArg Memories.fb t.vdmaTick_mem)).2) h

theorem State.dot_odmaInv {s : State} (h : s.odmaInv) : s.dot.odmaInv :=
  State.dot_keeps (P := State.odmaInv) (State.odmaInv_congr s.controllerStep_odma).2 (fun _ => State.oamDmaTick_odmaInv)
    (fun t => (State.odmaInv_congr t.vdmaTick_odma).2) h

theorem State.dot_vdmaInv {s : State} (h : s.vdmaInv) : s.dot.vdmaInv :=
  State.dot_keeps (P := State.vdmaInv) State.controllerStep_vdmaInv (fun t => (State.vdmaInv_congr t.oamDmaTick_vdma).2)
    (fun _ => State.vdmaTick_vdmaInv) h

theorem State.dot_colorReset {s : State} (h : s.colorReset) : s.dot.colorReset :=
  State.dot_keeps (P := State.colorReset) State.controllerStep_colorReset
    (fun t => State.colorReset_of_eq t.oamDmaTick_reg t.oamDmaTick_vdma fun _ => t.oamDmaTick_cells)
    (fun t ht => by rwa [State.vdmaTick_of_idle (State.colorReset_idle ht)]) h

theorem State.dot_renderInv {s : State} (h : s.RenderInv) : s.dot.RenderInv :=
  State.dot_keeps (P := State.RenderInv) State.controllerStep_renderInv
    (fun t ht => ht.congr t.oamDmaTick_cfg t.oamDmaTick_ctl t.oamDmaTick_bg t.oamDmaTick_sp t.oamDmaTick_lx)
    (fun t ht => ht.congr t.vdmaTick_cfg t.vdmaTick_ctl t.vdmaTick_bg t.vdmaTick_sp t.vdmaTick_lx) h

/-- A `TICK` with the display on completes and keeps every invariant. -/
theorem exec_tick_inv {s : State} (h : s.inv) (en : s.lcdEn = true) : ∃ t, exec .tick s = .next t ∧ t.inv := by
  obtain ⟨mem, fb, line, dma, color, render⟩ := s.inv_iff.1 h
  obtain ⟨odma, vdma⟩ := s.dmaInv_iff.1 dma
  have ht : exec .tick s = .next s.quiet.dot.countSignals := (exec_tick_next s _).2 ⟨render.not_drawOverruns, rfl⟩
  have quiet : s.quiet.RenderInv := render.congr rfl rfl rfl rfl rfl
  refine ⟨_, ht, (State.inv_iff _).2 ⟨?_, ?_, (exec_tick_frameTick line en ht).lineInv,
    (State.dmaInv_iff _).2 ⟨?_, ?_⟩, fun mono => ?_, ?_⟩⟩
  · exact State.dot_memInv (s := s.quiet) mem
  · exact State.dot_fbInv (s := s.quiet) fb en line render.fetchers.queue
  · exact State.dot_odmaInv (s := s.quiet) odma
  · exact State.dot_vdmaInv (s := s.quiet) vdma
  · rw [State.countSignals_cfg, State.dot_cfg] at mono
    exact State.dot_colorReset (s := s.quiet) (color mono)
  · exact (State.dot_renderInv quiet).congr rfl rfl rfl rfl rfl

/-! ### Many `TICK`s -/

/-- How many frames have come to the end of their visible lines before dot `d`, counting dots from the top of a frame. -/
def framesShown (d : Nat) : Nat := (d + 4560) / 70224

theorem framesShown_succ (d : Nat) : framesShown (d + 1) = framesShown d + (d % 70224 == lastVisibleDot).toNat := by
  unfold framesShown lastVisibleDot
  by_cases h : d % 70224 = 65663
  · simp only [h, beq_self_eq_true, Bool.toNat_true]; omega
  · simp only [beq_eq_false_iff_ne.2 h, Bool.toNat_false]; omega

theorem framesShown_frame (d : Nat) : framesShown (d + 70224) = framesShown d + 1 := by unfold framesShown; omega

theorem ticks_succ {s t : State} (n : Nat) (h : exec .tick s = .next t) : ticks (n + 1) s = ticks n t := by rw [ticks, h]

/-- Any number of `TICK`s from a state that meets the invariants, at dot `d` since the top of some frame: they complete, and
each counter has grown by the number of frames shown in between. -/
theorem ticks_frame (n : Nat) {s : State} (h : s.inv) (en : s.lcdEn = true) {d : Nat} (hd : s.frameDot = d % 70224) :
    ∃ t, ticks n s = some t ∧ t.inv ∧ t.frameDot = (d + n) % 70224 ∧
      t.cnt.vblankIrq + framesShown d = s.cnt.vblankIrq + framesShown (d + n) ∧
      t.cnt.frameReady + framesShown d = s.cnt.frameReady + framesShown (d + n) := by
  induction n generalizing s d with
  | zero => exact ⟨s, rfl, h, hd, rfl, rfl⟩
  | succ n ih =>
    obtain ⟨u, hu, inv⟩ := exec_tick_inv h en
    have tick := exec_tick_frameTick h.lineInv en hu
    have next : u.frameDot = (d + 1) % 70224 := by rw [tick.frameDot, hd, Nat.mod_add_mod]
    obtain ⟨t, ht, inv', place, vblankIrqs, frameReadies⟩ := ih inv tick.lcdEn next
    have shown := framesShown_succ d
    have now := tick.vblankIrqs
    have ready := tick.frameReadies
    rw [hd] at now ready
    rw [Nat.add_right_comm d 1 n] at place vblankIrqs frameReadies
    exact ⟨t, (ticks_succ n hu).trans ht, inv', place, by rw [← Nat.add_assoc]; omega, by rw [← Nat.add_assoc]; omega⟩

/-! ### The obligation -/

/-- Settles O60 (R333, R336): the frame's step says which `TICK` raises the signals; a frame's 70224 `TICK`s show one frame. -/
theorem oneVblankPerFrame : Obligations.OneVblankPerFrame := by
  unfold Obligations.OneVblankPerFrame
  refine ⟨fun s t line en ht => ?_, fun s inv en => ?_⟩
  · have tick := exec_tick_frameTick line en ht
    rw [tick.vblankIrq, tick.frameReady, beq_iff_eq, lastVisibleDot]
    exact ⟨Iff.rfl, Iff.rfl⟩
  · have small := State.frameDot_lt inv.lineInv en
    obtain ⟨t, ht, inv', place, vblankIrqs, frameReadies⟩ := ticks_frame 70224 inv en (Nat.mod_eq_of_lt small).symm
    have frame := framesShown_frame s.frameDot
    exact ⟨t, ht, by omega, by omega, by omega, inv'⟩

end Sys2Proof.Machine
end

section
/-! PROOFS. Event words (30_encoding.md R100 to R103). A word is its four fields (`eventWord_of_fields`), and the bus map gives
each address to the row whose events name it (`busTarget_rows`); both round trips are read off these two. -/

namespace Sys2Proof

/-! ### The fields of a word -/

theorem kindField_toNat (w : EventWord) : (kindField w).toNat = w.toNat / 2 ^ 30 := by
  have := w.isLt
  simp only [kindField, BitVec.extractLsb'_toNat, Nat.shiftRight_eq_div_pow]; omega

theorem zeroField_toNat (w : EventWord) : (zeroField w).toNat = w.toNat / 2 ^ 24 % 2 ^ 6 := by
  simp only [zeroField, BitVec.extractLsb'_toNat, Nat.shiftRight_eq_div_pow]

theorem addrField_toNat (w : EventWord) : (addrField w).toNat = w.toNat / 2 ^ 8 % 2 ^ 16 := by
  simp only [addrField, BitVec.extractLsb'_toNat, Nat.shiftRight_eq_div_pow]

theorem dataField_toNat (w : EventWord) : (dataField w).toNat = w.toNat % 2 ^ 8 := by
  simp only [dataField, BitVec.extractLsb'_toNat, Nat.shiftRight_zero]

/-- Laying two fields side by side is adding the high one's multiple of the low one's range. -/
theorem bitVec_append_toNat {m n : Nat} (x : BitVec m) (y : BitVec n) : (x ++ y).toNat = x.toNat * 2 ^ n + y.toNat := by
  rw [BitVec.toNat_append, ← Nat.shiftLeft_add_eq_or_of_lt y.isLt, Nat.shiftLeft_eq]

theorem eventWord_toNat (k : BitVec 2) (a : Addr) (d : Byte) :
    (eventWord k a d).toNat = k.toNat * 2 ^ 30 + a.toNat * 2 ^ 8 + d.toNat := by
  simp only [eventWord, bitVec_append_toNat, BitVec.toNat_ofNat]
  omega

/-- A word whose field `zero` is 0 is laid out from its other fields (R100). -/
theorem eventWord_of_fields {w : EventWord} (h : zeroField w = 0#6) : eventWord (kindField w) (addrField w) (dataField w) = w := by
  have zero := congrArg BitVec.toNat h
  rw [zeroField_toNat] at zero
  apply BitVec.eq_of_toNat_eq
  rw [eventWord_toNat, kindField_toNat, addrField_toNat, dataField_toNat]
  have := w.isLt
  simp at zero; omega

/-! ### The rows of the bus map -/

/-- What holds of each register's address and of every address of the three memory rows holds of every address (R102). -/
theorem busTarget_rows {P : Addr → Port → Prop} (registers : ∀ a ∈ registerAddresses, P a (busTarget a))
    (vram : ∀ a, a.isVram = true → P a .vram) (oam : ∀ a, a.isOam = true → P a .oam) (mem : ∀ a, a.isMem = true → P a .mem)
    (a : Addr) : P a (busTarget a) := by
  by_cases hr : a ∈ registerAddresses
  · exact registers a hr
  rw [Machine.busTarget_memory a hr]
  split_ifs with hv ho
  · exact vram a hv
  · exact oam a ho
  · exact mem a ((Machine.isMem_iff a).2 ⟨hr, by simpa using hv, by simpa using ho⟩)

/-- The `RD` event of an address is well-formed and its word is `RD a`. -/
theorem encode_readEvent (a : Addr) :
    (readEvent (busTarget a) a).wf = true ∧ encode (readEvent (busTarget a) a) = readWord a := by
  refine busTarget_rows (P := fun a p => (readEvent p a).wf = true ∧ encode (readEvent p a) = readWord a) ?_ ?_ ?_ ?_ a
  · intro a h
    fin_cases h <;> exact ⟨rfl, rfl⟩
  all_goals exact fun a h => ⟨h, rfl⟩

/-- The `WR` event of an address and a byte is well-formed and its word is `WR a, d`. -/
theorem encode_writeEvent (a : Addr) (d : Byte) :
    (writeEvent (busTarget a) a d).wf = true ∧ encode (writeEvent (busTarget a) a d) = writeWord a d := by
  refine busTarget_rows (P := fun a p => (writeEvent p a d).wf = true ∧ encode (writeEvent p a d) = writeWord a d) ?_ ?_ ?_ ?_ a
  · intro a h
    fin_cases h <;> exact ⟨rfl, rfl⟩
  all_goals exact fun a h => ⟨h, rfl⟩

/-! ### Decoding a word laid out from its fields -/

theorem decode_readWord (a : Addr) : decode (readWord a) = .ok (readEvent (busTarget a) a) := by
  obtain ⟨kind, zero, addr, data⟩ := Laws.eventWord_fields 0b01#2 a 0#8
  simp [decode, readWord, kind, zero, addr, data]

theorem decode_writeWord (a : Addr) (d : Byte) : decode (writeWord a d) = .ok (writeEvent (busTarget a) a d) := by
  obtain ⟨kind, zero, addr, data⟩ := Laws.eventWord_fields 0b10#2 a d
  simp [decode, writeWord, kind, zero, addr, data]

/-- Settles O1 (R100 to R102): a register's address is written in its word, a memory row's address selects that row. -/
theorem decodeUndoesEncode : Obligations.DecodeUndoesEncode := by
  unfold Obligations.DecodeUndoesEncode
  intro i h
  have rd : ∀ {a : Addr} {p : Port}, busTarget a = p → decode (readWord a) = .ok (readEvent p a) := fun hp =>
    hp ▸ decode_readWord _
  have wr : ∀ {a : Addr} {p : Port} (d : Byte), busTarget a = p → decode (writeWord a d) = .ok (writeEvent p a d) := fun d hp =>
    hp ▸ decode_writeWord _ d
  cases i with
  | tick => rfl
  | rdVram a => exact rd (Machine.busTarget_vram a h)
  | rdOam a => exact rd (Machine.busTarget_oam a h)
  | rdMem a => exact rd (Machine.busTarget_mem a h)
  | wrVram a d => exact wr d (Machine.busTarget_vram a h)
  | wrOam a d => exact wr d (Machine.busTarget_oam a h)
  | wrMem a d => exact wr d (Machine.busTarget_mem a h)
  | rdLcdc | rdStat | rdScy | rdScx | rdLy | rdLyc | rdDma | rdBgp | rdObp0 | rdObp1 | rdWy | rdWx | rdVbk | rdHdma1 | rdHdma2
  | rdHdma3 | rdHdma4 | rdHdma5 | rdBcps | rdBcpd | rdOcps | rdOcpd => exact decode_readWord _
  | wrLcdc d | wrStat d | wrScy d | wrScx d | wrLy d | wrLyc d | wrDma d | wrBgp d | wrObp0 d | wrObp1 d | wrWy d | wrWx d
  | wrVbk d | wrHdma1 d | wrHdma2 d | wrHdma3 d | wrHdma4 d | wrHdma5 d | wrBcps d | wrBcpd d | wrOcps d | wrOcpd d =>
    exact decode_writeWord _ d

/-- What a word that decodes spells: `TICK`, or the `RD` or `WR` event of its address (R101, R103). -/
theorem decode_ok {w : EventWord} {i : Instr} (h : decode w = .ok i) :
    (i = .tick ∧ w = encode .tick) ∨ (∃ a, i = readEvent (busTarget a) a ∧ w = readWord a) ∨
      ∃ a d, i = writeEvent (busTarget a) a d ∧ w = writeWord a d := by
  unfold decode at h
  split_ifs at h with reserved zero tick operand read data
  all_goals injection h with h
  all_goals rw [← eventWord_of_fields (not_not.1 zero), ← h]
  · rw [not_or, not_not, not_not] at operand
    exact .inl ⟨rfl, by rw [tick, operand.1, operand.2]; rfl⟩
  · exact .inr (.inl ⟨_, rfl, by rw [read, not_not.1 data]; rfl⟩)
  · have write : kindField w = 0b10#2 := by
      generalize kindField w = k at *
      revert k; decide
    exact .inr (.inr ⟨_, _, rfl, by rw [write]; rfl⟩)

/-- Settles O2 (R100 to R103). -/
theorem encodeUndoesDecode : Obligations.EncodeUndoesDecode := by
  unfold Obligations.EncodeUndoesDecode
  intro w i h
  obtain ⟨rfl, rfl⟩ | ⟨a, rfl, rfl⟩ | ⟨a, d, rfl, rfl⟩ := decode_ok h
  · exact ⟨rfl, rfl⟩
  · exact encode_readEvent a
  · exact encode_writeEvent a d

/-! ### Refusal -/

/-- The words of R103, by their fields. -/
theorem decode_error_iff (w : EventWord) : (∃ why, decode w = .error why) ↔
    kindField w = 0b11#2 ∨ zeroField w ≠ 0#6 ∨ (kindField w = 0b00#2 ∧ (addrField w ≠ 0#16 ∨ dataField w ≠ 0#8)) ∨
      (kindField w = 0b01#2 ∧ dataField w ≠ 0#8) := by
  unfold decode
  split_ifs <;> simp_all

/-- Settles O3 (R103): the fields read as numbers; the step's refusal is its second branch. -/
theorem refusedWordsExactly : Obligations.RefusedWordsExactly := by
  unfold Obligations.RefusedWordsExactly
  refine fun w => ⟨?_, fun why h s rest => by simp [Machine.step, h]⟩
  simp only [decode_error_iff, ne_eq, ← BitVec.toNat_inj, kindField_toNat, zeroField_toNat, addrField_toNat, dataField_toNat]
  rfl

/-- Settles O4 (R100, R102): each word is decoded by evaluation. -/
theorem sampleWordsDecode : Obligations.SampleWordsDecode := by
  unfold Obligations.SampleWordsDecode
  decide

/-- Settles O5 (log entry 1): the branches of `step`; a 32-bit word is its own low 32 bits. -/
theorem stepRunsDecodedEvent : Obligations.StepRunsDecodedEvent := by
  unfold Obligations.StepRunsDecodedEvent
  refine ⟨fun s w rest i hs hw => by simp [Machine.step, hs, hw], fun s hs => by simp [Machine.step, hs], fun s w i hw => ?_⟩
  have word : BitVec.ofNat 32 (w.toNat % 2 ^ 32) = w := by
    rw [Nat.mod_eq_of_lt w.isLt, BitVec.ofNat_toNat, BitVec.setWidth_eq]
  simp only [Machine.step, Machine.State.withFetchWord, word, hw]

end Sys2Proof
end

section
/-! PROOFS. What an event can do (46_register_ops.md, 20_memory.md R72): `exec_cases` says it once for all of them, and each
invariant of a run is read off its cases. -/

namespace Sys2Proof.Machine

/-! ### The cases of an event -/

/-- The registers of color mode are the same (R368). -/
def Regs.SameColor (q r : Regs) : Prop :=
  r.vbk = q.vbk ∧ r.hdma1 = q.hdma1 ∧ r.hdma2 = q.hdma2 ∧ r.hdma3 = q.hdma3 ∧ r.hdma4 = q.hdma4 ∧
  r.bcpsIdx = q.bcpsIdx ∧ r.bcpsInc = q.bcpsInc ∧ r.ocpsIdx = q.ocpsIdx ∧ r.ocpsInc = q.ocpsInc

theorem Regs.SameColor.rfl {q : Regs} : q.SameColor q := ⟨.refl _, .refl _, .refl _, .refl _, .refl _, .refl _, .refl _, .refl _, .refl _⟩

/-- What a `WR` of anything but LCDC can leave in the registers. -/
structure RegWrite (s : State) (i : Instr) (r : Regs) : Prop where
  lcdc : r.lcdc = s.reg.lcdc
  color : s.cfg.cgbMode = false → s.reg.SameColor r
  vbk : r.vbk = s.reg.vbk ∨ ∃ d, i = .wrVbk d

/-- What a `WR` can leave in the memories: one byte stored, in monochrome not into a memory of color mode. -/
inductive MemWrite (s : State) (i : Instr) : Memories → Prop
  | none : MemWrite s i s.mem
  | store (p : Space) (a : Nat) (v : Byte) (covers : i.wf = true → Space.covers p a)
      (mono : s.cfg.cgbMode = false → s.reg.vbk = 0#1 → p ≠ .vram1 ∧ p ≠ .bgpal ∧ p ≠ .objpal) : MemWrite s i (s.mem.store p a v)

/-- Everything an event that completes can do. -/
inductive EventCase (s : State) : Instr → State → Prop
  | tick (completes : s.drawOverruns = false) : EventCase s .tick s.quiet.dot.countSignals
  | read (i : Instr) (r : Byte) : EventCase s i (s.answer r)
  | lcdc (d : Byte) : EventCase s (.wrLcdc d) (s.quiet.writeLcdc d).countSignals
  | oamDma (d : Byte) : EventCase s (.wrDma d) (s.quiet.oamDmaStart d)
  | vramDma (d : Byte) (cgb : s.cfg.cgbMode = true) : EventCase s (.wrHdma5 d) (s.quiet.vdmaWrite d)
  | write (i : Instr) (r : Regs) (m : Memories) (regs : RegWrite s i r) (mem : MemWrite s i m) :
      EventCase s i { s.quiet with reg := r, mem := m }

theorem EventCase.ignored (s : State) (i : Instr) : EventCase s i s.quiet :=
  .write i s.reg s.mem ⟨rfl, fun _ => .rfl, .inl rfl⟩ .none

/-- A `WR` of a register that color mode does not have of its own. -/
theorem EventCase.register {s : State} {i : Instr} {r : Regs} (lcdc : r.lcdc = s.reg.lcdc) (color : s.reg.SameColor r) :
    EventCase s i { s.quiet with reg := r } :=
  .write i r s.mem ⟨lcdc, fun _ => color, .inl color.1⟩ .none

/-- A `WR` of a register of color mode, which does nothing in monochrome (R116, D30). -/
theorem EventCase.colorRegister {s : State} {i : Instr} {r : Regs} {m : Memories} (lcdc : r.lcdc = s.reg.lcdc)
    (vbk : r.vbk = s.reg.vbk ∨ ∃ d, i = .wrVbk d) (mem : s.cfg.cgbMode = true → MemWrite s i m) :
    EventCase s i (s.quiet.cgbWrite { s.quiet with reg := r, mem := m }) := by
  unfold State.cgbWrite
  split_ifs with hc
  · exact .write i r m ⟨lcdc, fun h => absurd hc (by simp [h]), vbk⟩ (mem hc)
  · exact .ignored s i

/-- A `WR` of a memory row, which does nothing where it is gated (R72). -/
theorem EventCase.memory {s : State} {i : Instr} {p : Space} {a : Nat} (v : Byte) (covers : i.wf = true → Space.covers p a)
    (mono : s.reg.vbk = 0#1 → p ≠ .vram1 ∧ p ≠ .bgpal ∧ p ≠ .objpal) (c : Prop) [Decidable c] :
    EventCase s i (if c then s.quiet else s.quiet.poke p a v) := by
  split_ifs
  · exact .ignored s i
  · exact .write i s.reg _ ⟨rfl, fun _ => .rfl, .inl rfl⟩ (.store p a v covers fun _ => mono)

theorem vramSpace_covers {a : Addr} (b : BitVec 1) (h : a.isVram = true) : Space.covers (vramSpace b) a.toNat := by
  have range : 0x8000 ≤ a.toNat ∧ a.toNat < 0xA000 := by simp [Addr.isVram] at h; omega
  unfold vramSpace; split_ifs <;> exact range

theorem oam_covers {a : Addr} (h : a.isOam = true) : Space.covers .oam (oamIndex a) := by
  simp only [Addr.isOam, decide_eq_true_eq] at h
  show a.toNat - 0xFE00 < 0xA0
  omega

theorem exec_cases {i : Instr} {s t : State} (h : exec i s = .next t) : EventCase s i t := by
  cases i with
  | tick =>
    obtain ⟨completes, rfl⟩ := (exec_tick_next s t).1 h
    exact .tick completes
  | rdLcdc | rdStat | rdScy | rdScx | rdLy | rdLyc | rdDma | rdBgp | rdObp0 | rdObp1 | rdWy | rdWx | rdVbk | rdHdma1 | rdHdma2
  | rdHdma3 | rdHdma4 | rdHdma5 | rdBcps | rdBcpd | rdOcps | rdOcpd | rdVram _ | rdOam _ | rdMem _ =>
    injection h with h; exact h ▸ .read _ _
  | wrLcdc d => injection h with h; exact h ▸ .lcdc d
  | wrDma d => injection h with h; exact h ▸ .oamDma d
  | wrHdma5 d =>
    injection h with h
    subst h
    show EventCase s _ (s.quiet.cgbWrite (s.quiet.vdmaWrite d))
    unfold State.cgbWrite
    split_ifs with hc
    · exact .vramDma d hc
    · exact .ignored s _
  | wrLy _ => injection h with h; exact h ▸ .ignored s _
  | wrStat _ | wrScy _ | wrScx _ | wrLyc _ | wrBgp _ | wrObp0 _ | wrObp1 _ | wrWy _ | wrWx _ =>
    injection h with h; exact h ▸ .register rfl .rfl
  | wrVbk d => injection h with h; exact h ▸ .colorRegister rfl (.inr ⟨d, rfl⟩) fun _ => .none
  | wrHdma1 _ | wrHdma2 _ | wrHdma3 _ | wrHdma4 _ | wrBcps _ | wrOcps _ =>
    injection h with h; exact h ▸ .colorRegister rfl (.inl rfl) fun _ => .none
  | wrBcpd d =>
    injection h with h
    exact h ▸ .colorRegister rfl (.inl rfl) fun hc => .store .bgpal s.reg.bcpsIdx.toNat d (fun _ => s.reg.bcpsIdx.isLt) (by simp [hc])
  | wrOcpd d =>
    injection h with h
    exact h ▸ .colorRegister rfl (.inl rfl) fun hc => .store .objpal s.reg.ocpsIdx.toNat d (fun _ => s.reg.ocpsIdx.isLt) (by simp [hc])
  | wrVram a d =>
    injection h with h
    exact h ▸ .memory (i := .wrVram a d) d (vramSpace_covers s.reg.vbk) (fun hb => by simp [hb, vramSpace]) _
  | wrOam a d => injection h with h; exact h ▸ .memory (i := .wrOam a d) (p := .oam) d oam_covers (fun _ => by simp) _
  | wrMem a d =>
    injection h with h
    exact h ▸ .memory (i := .wrMem a d) (p := .ext) d (fun _ => a.isLt) (fun _ => by simp) False

/-- What `WR.LCDC` can do (R261). -/
inductive LcdcCase (s : State) (d : Byte) : State → Prop
  | same (bit : d.getLsbD 7 = s.lcdEn) : LcdcCase s d { s with reg := { s.reg with lcdc := d } }
  | off (before : s.lcdEn = true) (after : d.getLsbD 7 = false) :
      LcdcCase s d (State.lcdDisable { s with reg := { s.reg with lcdc := d } })
  | on (before : s.lcdEn = false) (after : d.getLsbD 7 = true) :
      LcdcCase s d (State.enterOamSearch { s with reg := { s.reg with lcdc := d } })

theorem State.writeLcdc_cases (s : State) (d : Byte) : LcdcCase s d (s.writeLcdc d) := by
  unfold State.writeLcdc
  dsimp only
  split_ifs with hoff hon
  · simp at hoff; exact .off hoff.1 hoff.2
  · simp at hon; exact .on hon.1 hon.2
  · refine .same ?_
    cases hb : s.lcdEn <;> simp_all

/-- What every event keeps, every step keeps: a step runs a well-formed event on the state without its word. -/
theorem step_keeps {P : State → Prop} (withEvents : ∀ s l, P s → P { s with events := l })
    (event : ∀ i s t, i.wf = true → P s → exec i s = .next t → P t) {s t : State} (h : P s) (hstep : step s = .next t) : P t := by
  obtain ⟨-, rfl⟩ | ⟨w, rest, i, -, hdec, hexec⟩ := step_cases s t hstep
  · exact h
  · exact event i _ t (encodeUndoesDecode w i hdec).1 (withEvents s rest h) hexec

end Sys2Proof.Machine
end

section
/-! PROOFS. The start of a VRAM DMA (45_vram_dma.md R240, R241, R245): the four things `VdmaWrite` can do, and what the engine
and the memories hold after a general transfer. -/

namespace Sys2Proof.Machine

/-! ### The operands of HDMA1 to HDMA5 -/

theorem append_toNat (h l : Byte) : (h ++ l : Addr).toNat = 256 * h.toNat + l.toNat := by
  rw [bitVec_append_toNat]; omega

/-- Masking a 16-bit address to bits 15:4 is rounding it down to a block. -/
theorem and_0xFFF0_toNat (a : Addr) : (a &&& 0xFFF0#16).toNat = a.toNat / 16 * 16 := by
  have split : a &&& 0xFFF0#16 = (a >>> 4) <<< 4 := by
    ext i hi
    simp only [BitVec.getElem_and, BitVec.getElem_shiftLeft, BitVec.getElem_ushiftRight]
    interval_cases i <;> simp
  have := a.isLt
  rw [split, BitVec.toNat_shiftLeft, BitVec.toNat_ushiftRight, Nat.shiftLeft_eq, Nat.shiftRight_eq_div_pow]; omega

theorem vdmaSource_toNat (h1 h2 : Byte) : (vdmaSource h1 h2).toNat = (256 * h1.toNat + h2.toNat) / 16 * 16 := by
  rw [vdmaSource, and_0xFFF0_toNat, append_toNat]

theorem vdmaDest_toNat (h3 h4 : Byte) :
    (vdmaDest h3 h4).toNat = 0x8000 + (256 * h3.toNat + h4.toNat) % 0x2000 / 16 * 16 := by
  have masks : (h3 ++ h4) &&& 0x1FF0#16 = ((h3 ++ h4) &&& 0xFFF0#16) &&& 0x1FFF#16 := by rw [BitVec.and_assoc]; rfl
  have := (h3 ++ h4 : Addr).isLt
  have wrapped := wrapVram_toNat ((h3 ++ h4) &&& 0xFFF0#16)
  rw [and_0xFFF0_toNat, append_toNat] at wrapped
  rw [vdmaDest, masks]
  exact wrapped.trans (by omega)

theorem vdmaLenField_toNat (v : Byte) : (vdmaLenField v).toNat = v.toNat % 128 := by
  simp [vdmaLenField, BitVec.extractLsb'_toNat]

theorem vdmaBlocksOf_eq (v : Byte) : vdmaBlocksOf v = v.toNat % 128 + 1 := by rw [vdmaBlocksOf, vdmaLenField_toNat]

/-! ### `VdmaWrite` -/

/-- What `VdmaWrite` can do (R240, R245). -/
inductive VdmaWriteCase (s : State) (v : Byte) : State → Prop
  | ignored (mode : s.vdma.mode = .general) : VdmaWriteCase s v s
  | cancel (mode : s.vdma.mode = .hblank) (bit : vdmaHblankBit v = false) : VdmaWriteCase s v (s.setVdmaMode .idle)
  | hblank (mode : s.vdma.mode ≠ .general) (bit : vdmaHblankBit v = true) : VdmaWriteCase s v (s.startHblank v)
  | general (mode : s.vdma.mode = .idle) (bit : vdmaHblankBit v = false) : VdmaWriteCase s v (s.startGeneral v)

theorem State.vdmaWrite_cases (s : State) (v : Byte) : VdmaWriteCase s v (s.vdmaWrite v) := by
  unfold State.vdmaWrite
  split
  · next mode => exact .ignored mode
  · next mode =>
    split_ifs with bit
    · exact .hblank (by simp [mode]) bit
    · exact .cancel mode (by simpa using bit)
  · next mode =>
    split_ifs with bit
    · exact .hblank (by simp [mode]) bit
    · exact .general mode (by simpa using bit)

/-- The state in which a general transfer copies (R240): the operands are latched and the engine is set. -/
def State.loaded (s : State) (v : Byte) : State := (s.vdmaLoad v).setVdmaMode .general

/-- The engine after a general transfer has copied `n` blocks up to the destination `dst`. -/
def State.generalEngine (s : State) (v : Byte) (dst : Addr) : VramDma :=
  { mode := .general
    src := vdmaSource s.reg.hdma1 s.reg.hdma2 + BitVec.ofNat 16 (16 * vdmaBlocksOf v)
    dst := dst
    blocks := 0
    dots := 0
    threshold := 64 * vdmaBlocksOf v
    len := vdmaLenField v }

/-- A general transfer is one ascending copy of all its bytes, after which the counter starts (R241). -/
theorem State.startGeneral_eq (s : State) (v : Byte) : ∃ dst : Addr,
    dst.toNat = vdmaCell (vdmaDest s.reg.hdma3 s.reg.hdma4).toNat (16 * vdmaBlocksOf v) ∧
    s.startGeneral v = { (s.loaded v).vdmaBytes (16 * vdmaBlocksOf v) with vdma := s.generalEngine v dst } := by
  obtain ⟨dst, copied, -, cell⟩ := (s.loaded v).copyBlocks_eq (vdmaBlocksOf v)
  refine ⟨dst, cell (Nat.succ_pos _), ?_⟩
  have copy : (s.loaded v).generalCopy = (s.loaded v).copyBlocks (vdmaBlocksOf v) := by rw [State.generalCopy]; rfl
  unfold State.startGeneral
  dsimp only
  change ({ (s.loaded v).generalCopy with vdma := { (s.loaded v).generalCopy.vdma with
    dots := 0, threshold := Config.vdmaBlockThreshold * vdmaBlocksOf v, blocks := 0 } } : State) = _
  rw [copy, copied]
  rfl

theorem State.vdmaBytes_memInv {s : State} (n : Nat) (h : s.memInv) : (s.vdmaBytes n).memInv :=
  memInv_foldl State.vdmaByte (fun _ => True) (fun _ _ _ h => State.poke_memInv _ _ _ _ h (vramSpace_covers_wrap _ _)) _ s
    (fun _ _ => trivial) h

theorem State.vdmaBytes_fb (s : State) (n : Nat) : (s.vdmaBytes n).mem.fb = s.mem.fb :=
  List.foldlRecOn (motive := fun t => t.mem.fb = s.mem.fb) _ State.vdmaByte rfl fun _ ih _ _ =>
    (Memories.store_fb _ _ _ _).trans ih

/-- The memories after `VdmaWrite` are what they were, or those of a copy. -/
theorem State.vdmaWrite_mem_cases (s : State) (v : Byte) :
    (s.vdmaWrite v).mem = s.mem ∨ ∃ u n, u.mem = s.mem ∧ (s.vdmaWrite v).mem = (State.vdmaBytes u n).mem := by
  have write := s.vdmaWrite_cases v
  generalize s.vdmaWrite v = t at write ⊢
  cases write with
  | ignored _ | cancel _ _ | hblank _ _ => exact .inl rfl
  | general _ _ =>
    obtain ⟨dst, -, started⟩ := s.startGeneral_eq v
    rw [started]
    exact .inr ⟨s.loaded v, _, rfl, rfl⟩

theorem State.vdmaWrite_memInv {s : State} (v : Byte) (h : s.memInv) : (s.vdmaWrite v).memInv := by
  obtain hm | ⟨u, n, hu, hm⟩ := s.vdmaWrite_mem_cases v
  · exact (State.memInv_congr _ _ hm).2 h
  · exact (State.memInv_congr _ _ hm).2 (State.vdmaBytes_memInv n ((State.memInv_congr _ _ hu).2 h))

theorem State.vdmaWrite_fb (s : State) (v : Byte) : (s.vdmaWrite v).mem.fb = s.mem.fb := by
  obtain hm | ⟨u, n, hu, hm⟩ := s.vdmaWrite_mem_cases v
  · rw [hm]
  · rw [hm, State.vdmaBytes_fb, hu]

/-- `VdmaWrite` leaves the engine's counters, addresses and length in step. -/
theorem State.vdmaWrite_vdmaInv {s : State} (v : Byte) (h : s.vdmaInv) : (s.vdmaWrite v).vdmaInv := by
  have src := vdmaSource_toNat s.reg.hdma1 s.reg.hdma2
  have dst := vdmaDest_toNat s.reg.hdma3 s.reg.hdma4
  have blocks := vdmaBlocksOf_eq v
  have write := s.vdmaWrite_cases v
  generalize s.vdmaWrite v = t at write ⊢
  cases write with
  | ignored _ => exact h
  | cancel _ _ =>
    obtain ⟨haddr, hblocks, -, -⟩ := h
    exact ⟨haddr, hblocks, nofun, nofun⟩
  | hblank _ _ =>
    refine ⟨?_, ?_, fun _ => rfl, nofun⟩
    · show 0x8000 ≤ (vdmaDest _ _).toNat ∧ (vdmaDest _ _).toNat ≤ 0x9FFF ∧ (vdmaDest _ _).toNat % 16 = 0 ∧
        (vdmaSource _ _).toNat % 16 = 0
      omega
    · show vdmaBlocksOf v ≤ 128
      omega
  | general _ _ =>
    obtain ⟨dst', cell, started⟩ := s.startGeneral_eq v
    rw [started]
    refine ⟨?_, Nat.zero_le _, nofun, fun _ => ⟨rfl, ?_⟩⟩
    · show 0x8000 ≤ dst'.toNat ∧ dst'.toNat ≤ 0x9FFF ∧ dst'.toNat % 16 = 0 ∧
        (vdmaSource _ _ + BitVec.ofNat 16 (16 * vdmaBlocksOf v)).toNat % 16 = 0
      rw [cell, vdmaCell, BitVec.toNat_add, BitVec.toNat_ofNat]
      omega
    · show 0 < 64 * vdmaBlocksOf v
      omega

end Sys2Proof.Machine
end

section
/-! PROOFS. The invariants of a run (70_reset_and_hazards.md R372): each is kept by every case of an event, so by every step. -/

namespace Sys2Proof.Machine

/-! ### The memories and the line -/

/-- An invariant that the DMA engines keep, and the controller while the display is on, is kept by a dot (R130). -/
theorem State.dot_keeps_of_lcdEn {P : State → Prop} {s : State} (controller : s.lcdEn = true → P s → P s.controllerStep)
    (odma : ∀ t, P t → P t.oamDmaTick) (vdma : ∀ t, P t → P t.vdmaTick) (h : P s) : P s.dot := by
  have phase : P s.phase := by
    unfold State.phase
    split_ifs with en
    · exact controller en h
    · exact h
  exact vdma _ (odma _ phase)

/-- With the display off the controller stands still (R130). -/
theorem State.phase_of_off {s : State} (off : s.lcdEn = false) : s.phase = s := if_neg (by simp [off])

theorem State.phase_of_on {s : State} (on : s.lcdEn = true) : s.phase = s.controllerStep := if_pos on

theorem State.writeLcdc_mem (s : State) (d : Byte) : (s.writeLcdc d).mem = s.mem := by
  have write := s.writeLcdc_cases d
  generalize s.writeLcdc d = t at write ⊢
  cases write with
  | same _ | off _ _ => rfl
  | on _ _ => exact State.enterOamSearch_mem _

theorem exec_memInv {i : Instr} {s t : State} (wf : i.wf = true) (h : s.memInv) (ht : exec i s = .next t) : t.memInv := by
  cases exec_cases ht with
  | tick _ => exact State.dot_memInv (s := s.quiet) h
  | read _ _ | oamDma _ => exact h
  | lcdc d => exact (State.memInv_congr s.quiet _ (State.writeLcdc_mem s.quiet d)).2 h
  | vramDma d _ => exact State.vdmaWrite_memInv (s := s.quiet) d h
  | write _ r m _ mem =>
    cases mem with
    | none => exact h
    | store p a v covers _ => exact State.poke_memInv s p a v h (covers wf)

theorem exec_fbInv {i : Instr} {s t : State} (h : s.fbInv) (line : s.lineInv) (queue : s.queueInv) (ht : exec i s = .next t) :
    t.fbInv := by
  cases exec_cases ht with
  | tick _ =>
    exact State.dot_keeps_of_lcdEn (P := State.fbInv) (s := s.quiet) (fun en h => State.controllerStep_fbInv h en line queue)
      (fun _ => State.oamDmaTick_fbInv) (fun t => (State.fbInv_congr _ _ (congrArg Memories.fb t.vdmaTick_mem)).2) h
  | read _ _ | oamDma _ => exact h
  | lcdc d => exact (State.fbInv_congr s.quiet _ (congrArg Memories.fb (State.writeLcdc_mem s.quiet d))).2 h
  | vramDma d _ => exact (State.fbInv_congr s.quiet _ (State.vdmaWrite_fb s.quiet d)).2 h
  | write _ r m _ mem =>
    cases mem with
    | none => exact h
    | store p a v _ _ => exact (State.fbInv_congr s _ (Memories.store_fb s.mem p a v)).2 h

/-- Settles O54 (R44, R49, R70). -/
theorem stepKeepsMemoryCanonical : Obligations.StepKeepsMemoryCanonical := by
  unfold Obligations.StepKeepsMemoryCanonical
  refine ⟨fun s t h => step_keeps (fun _ _ => id) (fun _ _ _ wf h => exec_memInv wf h) h, fun s t fb line queue hstep => ?_⟩
  obtain ⟨-, rfl⟩ | ⟨_, rest, _, -, -, ht⟩ := step_cases s t hstep
  · exact fb
  · exact exec_fbInv (s := { s with events := rest }) fb line queue ht

theorem State.lineInv_of_off {s : State} (off : s.lcdEn = false) (h : s.lineInv) :
    s.ctl.mode = .oamSearch ∧ s.ctl.modeDot = 0 ∧ s.ctl.ly = 0#8 := h.2 off

/-- The start of a line that is on the screen. -/
theorem State.lineInv_of_lineStart {s : State} (mode : s.ctl.mode = .oamSearch) (dot : s.ctl.modeDot = 0) (ly : s.ctl.ly = 0#8) :
    s.lineInv := by
  simp [State.lineInv, mode, dot, ly]

theorem State.writeLcdc_lineInv {s : State} (d : Byte) (h : s.lineInv) : (s.writeLcdc d).lineInv := by
  have write := s.writeLcdc_cases d
  generalize s.writeLcdc d = t at write ⊢
  cases write with
  | same bit => exact ⟨h.1, fun off => h.2 (bit.symm.trans off)⟩
  | off _ _ => exact State.lineInv_of_lineStart rfl rfl rfl
  | on before _ =>
    obtain ⟨-, -, ly⟩ := State.lineInv_of_off before h
    refine State.lineInv_of_lineStart ?_ ?_ ?_ <;> rw [State.enterOamSearch_ctl]
    exact ly

theorem exec_lineInv {i : Instr} {s t : State} (h : s.lineInv) (ht : exec i s = .next t) : t.lineInv := by
  cases exec_cases ht with
  | tick _ =>
    cases en : s.lcdEn with
    | true => exact (exec_tick_frameTick h en ht).lineInv
    | false =>
      have phase := State.phase_of_off (s := s.quiet) en
      exact (State.lineInv_congr (s := s) (s.quiet.dot_ctl.trans (congrArg State.ctl phase :)) s.quiet.dot_reg).2 h
  | read _ _ | oamDma _ => exact h
  | lcdc d => exact State.writeLcdc_lineInv (s := s.quiet) d h
  | vramDma d _ => exact (State.lineInv_congr (State.vdmaWrite_ctl s.quiet d) (State.vdmaWrite_reg s.quiet d)).2 h
  | write _ r m regs _ => exact ⟨h.1, fun off => h.2 (by rwa [State.lcdEn, regs.lcdc] at off)⟩

/-- Settles O55 (R34, R143, R144). -/
theorem stepKeepsLineInvariant : Obligations.StepKeepsLineInvariant := by
  unfold Obligations.StepKeepsLineInvariant
  exact fun s t h => step_keeps (fun _ _ => id) (fun _ _ _ _ h => exec_lineInv h) h

/-- Settles O59 (R143): a `TICK` is one step of the frame. -/
theorem frameDotAdvances : Obligations.FrameDotAdvances := by
  unfold Obligations.FrameDotAdvances
  intro s t line en ht
  have tick := exec_tick_frameTick line en ht
  exact ⟨tick.frameDot, tick.lcdEn, tick.lineInv⟩

/-! ### The fetchers -/

theorem State.queueInv_congr {s t : State} (hbg : t.bg = s.bg) (hsp : t.sp = s.sp) (hlx : t.lx = s.lx) :
    t.queueInv ↔ s.queueInv := by
  unfold State.queueInv; rw [hbg, hsp, hlx]

theorem State.spriteInv_congr {s t : State} (hsp : t.sp = s.sp) : t.spriteInv ↔ s.spriteInv := by
  unfold State.spriteInv; rw [hsp]

theorem State.deliverIfDue_queueInv {s : State} (h : s.queueInv) : s.deliverIfDue.queueInv := by
  unfold State.deliverIfDue
  split_ifs
  · have same : SameBg s s.deliver := rfl
    exact same.queueInv rfl (by simp [State.deliver, padQueue_length h.spQueue_le]) h
  · exact h

theorem State.spriteStep_queueInv {s : State} (h : s.queueInv) : s.spriteStep.2.queueInv := by
  have due := State.deliverIfDue_queueInv h
  have step := s.spriteStep_cases
  generalize s.spriteStep = answer at step ⊢
  cases step with
  | pass _ => exact due
  | @trigger i _ _ _ dot =>
    have begun : SameBg s.deliverIfDue (s.deliverIfDue.beginFetch i) := rfl
    exact dot.queueInv (begun.queueInv rfl due.spQueue_le due)
  | fetch _ dot => exact dot.queueInv due

theorem State.mixStep_queueInv {s : State} (h : s.queueInv) (hlx : s.lx < 160) : s.mixStep.queueInv := by
  have mix := s.mixStep_cases
  generalize s.mixStep = t at mix ⊢
  cases mix with
  | starved _ => exact h
  | pops b rest queue _ => exact State.mixPixel_queueInv h hlx queue

theorem State.drawDot_queueInv {s : State} (h : s.queueInv) : s.drawDot.queueInv := by
  by_cases hlx : s.lx = 160
  · have ht : s.drawDot = s.endDraw := if_pos hlx
    rw [ht]
    exact (State.queueInv_congr s.endDraw_bg s.endDraw_sp s.endDraw_lx).2 h
  · have sprites := State.spriteStep_queueInv h
    obtain ht | ht := State.drawDot_cases hlx <;> rw [ht]
    · exact sprites
    · refine State.mixStep_queueInv (State.bgStep_queueInv sprites) ?_
      rw [State.bgStep_lx, State.spriteStep_lx]
      exact lt_of_le_of_ne h.lx_le hlx

theorem State.enterDraw_queueInv {s : State} (tileBytes : s.bg.tileBytes.length = 16) : s.enterDraw.queueInv :=
  ⟨Nat.zero_le _, Nat.zero_le _, Nat.zero_le _, nofun, Nat.zero_le _, rfl, tileBytes, fun _ => rfl⟩

theorem State.queueInv.tileBytes {s : State} (h : s.queueInv) : s.bg.tileBytes.length = 16 := h.2.2.2.2.2.2.1

theorem State.controllerStep_queueInv {s : State} (h : s.queueInv) : s.controllerStep.queueInv := by
  have dot := s.controllerStep_cases
  generalize s.controllerStep = t at dot ⊢
  cases dot with
  | oamSearch _ =>
    unfold State.oamSearchDot
    split_ifs
    · exact State.enterDraw_queueInv (s := s.nextDot.collectSprites) h.tileBytes
    · exact h
  | draw _ => exact State.drawDot_queueInv (s := s.nextDot) h
  | hBlank _ => exact (State.queueInv_congr s.nextDot.hblankDot_bg s.nextDot.hblankDot_sp s.nextDot.hblankDot_lx).2 h
  | vBlank _ => exact (State.queueInv_congr s.nextDot.vblankDot_bg s.nextDot.vblankDot_sp s.nextDot.vblankDot_lx).2 h

theorem State.lcdDisable_queueInv {s : State} (h : s.queueInv) : s.lcdDisable.queueInv :=
  ⟨Nat.zero_le _, Nat.zero_le _, Nat.zero_le _, nofun, Nat.zero_le _, rfl, h.tileBytes, nofun⟩

theorem State.writeLcdc_queueInv {s : State} (d : Byte) (h : s.queueInv) : (s.writeLcdc d).queueInv := by
  have write := s.writeLcdc_cases d
  generalize s.writeLcdc d = t at write ⊢
  cases write with
  | same _ => exact h
  | off _ _ => exact State.lcdDisable_queueInv (s := { s with reg := { s.reg with lcdc := d } }) h
  | on _ _ => exact (State.queueInv_congr (State.enterOamSearch_bg _) (State.enterOamSearch_sp _) (State.enterOamSearch_lx _)).2 h

theorem exec_queueInv {i : Instr} {s t : State} (h : s.queueInv) (ht : exec i s = .next t) : t.queueInv := by
  cases exec_cases ht with
  | tick _ =>
    exact State.dot_keeps (P := State.queueInv) (s := s.quiet) State.controllerStep_queueInv
      (fun t => (State.queueInv_congr t.oamDmaTick_bg t.oamDmaTick_sp t.oamDmaTick_lx).2)
      (fun t => (State.queueInv_congr t.vdmaTick_bg t.vdmaTick_sp t.vdmaTick_lx).2) h
  | read _ _ | oamDma _ | write _ _ _ _ _ => exact h
  | lcdc d => exact State.writeLcdc_queueInv (s := s.quiet) d h
  | vramDma d _ =>
    exact (State.queueInv_congr (State.vdmaWrite_bg s.quiet d) (State.vdmaWrite_sp s.quiet d) (State.vdmaWrite_lx s.quiet d)).2 h

theorem State.deliverIfDue_spriteInv {s : State} (h : s.spriteInv) : s.deliverIfDue.spriteInv := by
  unfold State.deliverIfDue
  split_ifs
  · have ⟨_, _, hpre, _⟩ := h
    exact State.spriteInv_of_processed h rfl rfl hpre
  · exact h

theorem State.beginFetch_spriteInv {s : State} (h : s.spriteInv) {i : Nat} {e : LineSprite} (hi : s.sp.line[i]? = some e)
    (he : e.done = false) : (s.beginFetch i).spriteInv := by
  obtain ⟨length, bounds, -⟩ := h
  refine ⟨length, bounds, ?_, fun _ => rfl, nofun, fun _ => ⟨e, hi, he⟩⟩
  show (if s.extraDue then s.fineScroll else 0) ≤ 7
  have := s.fineScroll_le
  split_ifs <;> omega

theorem State.spriteStep_spriteInv {s : State} (h : s.spriteInv) : s.spriteStep.2.spriteInv := by
  have due := State.deliverIfDue_spriteInv h
  have step := s.spriteStep_cases
  generalize s.spriteStep = answer at step ⊢
  cases step with
  | pass _ => exact due
  | trigger _ first dot =>
    obtain ⟨e, he, hdone⟩ := firstAtCursor_some first
    exact dot.spriteInv nofun (State.beginFetch_spriteInv due he hdone)
  | fetch run dot => exact dot.spriteInv run due

theorem State.mixStep_spriteInv {s : State} (h : s.spriteInv) : s.mixStep.spriteInv := by
  have mix := s.mixStep_cases
  generalize s.mixStep = t at mix ⊢
  cases mix with
  | starved _ => exact h
  | pops _ _ _ _ => exact State.spriteInv_of_line rfl h

theorem State.drawDot_spriteInv {s : State} (h : s.spriteInv) : s.drawDot.spriteInv := by
  by_cases hlx : s.lx = 160
  · have ht : s.drawDot = s.endDraw := if_pos hlx
    rw [ht]
    exact (State.spriteInv_congr s.endDraw_sp).2 h
  · have sprites := State.spriteStep_spriteInv h
    obtain ht | ht := State.drawDot_cases hlx <;> rw [ht]
    · exact sprites
    · exact State.mixStep_spriteInv ((State.spriteInv_congr (State.bgStep_sp _)).2 sprites)

theorem State.controllerStep_spriteInv {s : State} (h : s.spriteInv) : s.controllerStep.spriteInv := by
  have dot := s.controllerStep_cases
  generalize s.controllerStep = t at dot ⊢
  cases dot with
  | oamSearch _ =>
    unfold State.oamSearchDot
    split_ifs
    · obtain ⟨length, bounds⟩ := s.nextDot.collectSprites_bounds
      exact ⟨length, bounds, Nat.zero_le _, fun _ => rfl, nofun, fun h => absurd rfl h⟩
    · exact h
  | draw _ => exact State.drawDot_spriteInv (s := s.nextDot) h
  | hBlank _ => exact (State.spriteInv_congr s.nextDot.hblankDot_sp).2 h
  | vBlank _ => exact (State.spriteInv_congr s.nextDot.vblankDot_sp).2 h

theorem State.lcdDisable_spriteInv (s : State) : s.lcdDisable.spriteInv :=
  ⟨Nat.zero_le _, nofun, Nat.zero_le _, by rintro (h | h) <;> (cases h), nofun, fun h => absurd rfl h⟩

theorem State.writeLcdc_spriteInv {s : State} (d : Byte) (h : s.spriteInv) : (s.writeLcdc d).spriteInv := by
  have write := s.writeLcdc_cases d
  generalize s.writeLcdc d = t at write ⊢
  cases write with
  | same _ => exact h
  | off _ _ => exact State.lcdDisable_spriteInv _
  | on _ _ => exact (State.spriteInv_congr (State.enterOamSearch_sp _)).2 h

theorem exec_spriteInv {i : Instr} {s t : State} (h : s.spriteInv) (ht : exec i s = .next t) : t.spriteInv := by
  cases exec_cases ht with
  | tick _ =>
    exact State.dot_keeps (P := State.spriteInv) (s := s.quiet) State.controllerStep_spriteInv
      (fun t => (State.spriteInv_congr t.oamDmaTick_sp).2) (fun t => (State.spriteInv_congr t.vdmaTick_sp).2) h
  | read _ _ | oamDma _ | write _ _ _ _ _ => exact h
  | lcdc d => exact State.writeLcdc_spriteInv (s := s.quiet) d h
  | vramDma d _ => exact (State.spriteInv_congr (State.vdmaWrite_sp s.quiet d)).2 h

/-- Settles O56 (R37, R39 to R43, R168). -/
theorem stepKeepsFetcherBounds : Obligations.StepKeepsFetcherBounds := by
  unfold Obligations.StepKeepsFetcherBounds
  exact ⟨fun s t h => step_keeps (fun _ _ => id) (fun _ _ _ _ h => exec_queueInv h) h,
    fun s t h => step_keeps (fun _ _ => id) (fun _ _ _ _ h => exec_spriteInv h) h⟩

/-! ### The DMA engines -/

theorem oamDmaSource_toNat (v : Byte) : (oamDmaSource v).toNat = 256 * v.toNat := by
  rw [oamDmaSource, append_toNat]; rfl

theorem State.oamDmaStart_odmaInv (s : State) (v : Byte) : (s.oamDmaStart v).odmaInv := by
  refine ⟨Nat.zero_le _, fun _ => Nat.succ_pos _, ?_⟩
  show (oamDmaSource v).toNat % 256 = 0
  rw [oamDmaSource_toNat]; omega

theorem exec_dmaInv {i : Instr} {s t : State} (h : s.dmaInv) (ht : exec i s = .next t) : t.dmaInv := by
  obtain ⟨odma, vdma⟩ := s.dmaInv_iff.1 h
  cases exec_cases ht with
  | tick _ => exact ⟨State.dot_odmaInv (s := s.quiet) odma, State.dot_vdmaInv (s := s.quiet) vdma⟩
  | read _ _ | write _ _ _ _ _ => exact h
  | lcdc d =>
    have write := s.quiet.writeLcdc_cases d
    generalize s.quiet.writeLcdc d = t at write ⊢
    cases write with
    | same _ | off _ _ => exact h
    | on _ _ =>
      exact ⟨(State.odmaInv_congr (State.enterOamSearch_odma _)).2 odma, (State.vdmaInv_congr (State.enterOamSearch_vdma _)).2 vdma⟩
  | oamDma d => exact ⟨s.quiet.oamDmaStart_odmaInv d, vdma⟩
  | vramDma d _ =>
    exact ⟨(State.odmaInv_congr (State.vdmaWrite_odma s.quiet d)).2 odma, State.vdmaWrite_vdmaInv (s := s.quiet) d vdma⟩

/-- Settles O57 (R46, R47, R76, R247). -/
theorem stepKeepsDmaInvariant : Obligations.StepKeepsDmaInvariant := by
  unfold Obligations.StepKeepsDmaInvariant
  exact fun s t h => step_keeps (fun _ _ => id) (fun _ _ _ _ h => exec_dmaInv h) h

/-! ### All invariants of a run -/

theorem State.lcdDisable_renderInv {s : State} (h : s.RenderInv) : s.lcdDisable.RenderInv :=
  ⟨⟨State.lcdDisable_queueInv h.fetchers.queue, s.lcdDisable_spriteInv, nofun⟩, nofun, nofun, fun mono => ⟨(h.plain mono).1, nofun⟩⟩

theorem State.writeLcdc_renderInv {s : State} (d : Byte) (h : s.RenderInv) : (s.writeLcdc d).RenderInv := by
  have write := s.writeLcdc_cases d
  generalize s.writeLcdc d = t at write ⊢
  cases write with
  | same _ => exact h.congr rfl rfl rfl rfl rfl
  | off _ _ => exact State.lcdDisable_renderInv (h.congr rfl rfl rfl rfl rfl)
  | on _ _ =>
    refine h.of_still (State.enterOamSearch_cfg _) (State.enterOamSearch_bg _) (State.enterOamSearch_sp _)
      (State.enterOamSearch_lx _) ?_ ?_ <;> simp [State.enterOamSearch_ctl]

theorem exec_renderInv {i : Instr} {s t : State} (h : s.RenderInv) (ht : exec i s = .next t) : t.RenderInv := by
  have quiet : s.quiet.RenderInv := h.congr rfl rfl rfl rfl rfl
  cases exec_cases ht with
  | tick _ => exact (State.dot_renderInv quiet).congr rfl rfl rfl rfl rfl
  | read _ _ | oamDma _ | write _ _ _ _ _ => exact h.congr rfl rfl rfl rfl rfl
  | lcdc d => exact (State.writeLcdc_renderInv d quiet).congr rfl rfl rfl rfl rfl
  | vramDma d _ =>
    exact h.congr (State.vdmaWrite_cfg s.quiet d) (State.vdmaWrite_ctl s.quiet d) (State.vdmaWrite_bg s.quiet d)
      (State.vdmaWrite_sp s.quiet d) (State.vdmaWrite_lx s.quiet d)

theorem State.colorReset_of_sameColor {s : State} {r : Regs} {m : Memories} (h : s.colorReset) (regs : s.reg.SameColor r)
    (cells : ∀ p, p = .vram1 ∨ p = .bgpal ∨ p = .objpal → m.cells p = s.mem.cells p) :
    State.colorReset { s with reg := r, mem := m } := by
  obtain ⟨h1, h2, h3, h4, h5, h6, h7, h8, h9, hvdma, hv, hb, ho⟩ := h
  obtain ⟨r1, r2, r3, r4, r5, r6, r7, r8, r9⟩ := regs
  exact ⟨r1.trans h1, r2.trans h2, r3.trans h3, r4.trans h4, r5.trans h5, r6.trans h6, r7.trans h7, r8.trans h8, r9.trans h9,
    hvdma, (cells _ (by simp)).trans hv, (cells _ (by simp)).trans hb, (cells _ (by simp)).trans ho⟩

theorem State.writeLcdc_colorReset {s : State} (d : Byte) (h : s.colorReset) : (s.writeLcdc d).colorReset := by
  have stored : State.colorReset { s with reg := { s.reg with lcdc := d } } := h
  have write := s.writeLcdc_cases d
  generalize s.writeLcdc d = t at write ⊢
  cases write with
  | same _ | off _ _ => exact stored
  | on _ _ =>
    exact State.colorReset_of_eq (State.enterOamSearch_reg _) (State.enterOamSearch_vdma _)
      (fun _ _ => by rw [State.enterOamSearch_mem]) stored

theorem exec_colorReset {i : Instr} {s t : State} (mono : s.cfg.cgbMode = false) (h : s.colorReset) (ht : exec i s = .next t) :
    t.colorReset := by
  cases exec_cases ht with
  | tick _ => exact State.dot_colorReset (s := s.quiet) h
  | read _ _ | oamDma _ => exact h
  | lcdc d => exact State.writeLcdc_colorReset (s := s.quiet) d h
  | vramDma d cgb => rw [mono] at cgb; cases cgb
  | write _ r m regs mem =>
    refine State.colorReset_of_sameColor (s := s.quiet) h (regs.color mono) fun p hp => ?_
    cases mem with
    | none => rfl
    | store q a v _ other =>
      obtain ⟨vram1, bgpal, objpal⟩ := other mono h.1
      refine Memories.cells_store_other s.mem q p a v ?_
      obtain rfl | rfl | rfl := hp
      · exact vram1.symm
      · exact bgpal.symm
      · exact objpal.symm

theorem State.plainBg_congr {s t : State} (hbg : t.bg = s.bg) : t.plainBg ↔ s.plainBg := by unfold State.plainBg; rw [hbg]

section
variable {s : State} (mono : s.cfg.cgbMode = false) (h : s.plainBg)
include mono h

theorem State.tryPush_plainBg : s.tryPush.plainBg := by
  obtain room | noRoom := Nat.lt_or_ge 8 s.bg.queue.length |>.symm
  · have ht := State.tryPush_bg_of_room room
    refine ⟨by rw [ht]; exact h.1, fun p hp => ?_⟩
    rw [ht] at hp
    obtain hp | hp := List.mem_append.1 (List.mem_of_mem_drop hp)
    · exact h.2 p hp
    · obtain ⟨c, -, rfl⟩ := List.mem_map.1 hp
      simp [State.bgPixel, mono]
  · rwa [State.tryPush_of_full noRoom]

theorem State.bgStageDot_plainBg : s.bgStageDot.plainBg := by
  unfold State.bgStageDot
  dsimp only
  cases s.bg.stage with
  | getTile =>
    dsimp only
    split_ifs
    · exact ⟨by simp [State.getTile, mono], h.2⟩
    · exact h
  | getTileDataLow => dsimp only; split_ifs <;> exact h
  | getTileDataHigh =>
    dsimp only
    split_ifs
    · exact State.tryPush_plainBg (s := s.asleep 0) mono h
    · exact h
  | sleep | push => exact State.tryPush_plainBg mono h

omit mono in
theorem State.windowEntryCheck_plainBg : s.windowEntryCheck.plainBg := by
  unfold State.windowEntryCheck State.enterWindow
  dsimp only
  split_ifs
  · exact ⟨h.1, nofun⟩
  · exact ⟨h.1, nofun⟩
  · exact h

theorem State.bgStep_plainBg : s.bgStep.plainBg := by
  have entry := State.windowEntryCheck_plainBg h
  unfold State.bgStep
  dsimp only
  split_ifs
  · exact entry
  · exact State.bgStageDot_plainBg (by rwa [State.windowEntryCheck_cfg]) entry

theorem SpriteDot.plainBg {t : State} (dot : SpriteDot s t) : t.plainBg := by
  obtain same | ⟨-, -, clocked⟩ := dot.bg_cases
  · exact same.plainBg h
  · exact clocked.plainBg (State.bgStep_plainBg (s := s.stage1Start) mono h)

theorem State.spriteStep_plainBg : s.spriteStep.2.plainBg := by
  have due : s.deliverIfDue.plainBg := by unfold State.deliverIfDue; split_ifs <;> exact h
  have mono' : s.deliverIfDue.cfg.cgbMode = false := by rwa [State.deliverIfDue_cfg]
  have step := s.spriteStep_cases
  generalize s.spriteStep = answer at step ⊢
  cases step with
  | pass _ => exact due
  | @trigger i _ _ _ dot => exact dot.plainBg (s := s.deliverIfDue.beginFetch i) mono' due
  | fetch _ dot => exact dot.plainBg mono' due

omit mono in
theorem State.mixStep_plainBg : s.mixStep.plainBg := by
  have mix := s.mixStep_cases
  generalize s.mixStep = t at mix ⊢
  cases mix with
  | starved _ => exact h
  | pops b rest queue _ => exact ⟨h.1, fun p hp => h.2 p (by rw [queue]; exact List.mem_cons_of_mem b hp)⟩

theorem State.drawDot_plainBg : s.drawDot.plainBg := by
  by_cases hlx : s.lx = 160
  · have ht : s.drawDot = s.endDraw := if_pos hlx
    rw [ht]
    exact (State.plainBg_congr s.endDraw_bg).2 h
  · have sprites := State.spriteStep_plainBg mono h
    obtain ht | ht := State.drawDot_cases hlx <;> rw [ht]
    · exact sprites
    · exact State.mixStep_plainBg (State.bgStep_plainBg (by rwa [State.spriteStep_cfg]) sprites)

theorem State.controllerStep_plainBg : s.controllerStep.plainBg := by
  have dot := s.controllerStep_cases
  generalize s.controllerStep = t at dot ⊢
  cases dot with
  | oamSearch _ =>
    unfold State.oamSearchDot
    split_ifs
    · exact ⟨h.1, nofun⟩
    · exact h
  | draw _ => exact State.drawDot_plainBg (s := s.nextDot) mono h
  | hBlank _ => exact (State.plainBg_congr s.nextDot.hblankDot_bg).2 h
  | vBlank _ => exact (State.plainBg_congr s.nextDot.vblankDot_bg).2 h

omit mono in
theorem State.writeLcdc_plainBg (d : Byte) : (s.writeLcdc d).plainBg := by
  have write := s.writeLcdc_cases d
  generalize s.writeLcdc d = t at write ⊢
  cases write with
  | same _ => exact h
  | off _ _ => exact ⟨h.1, nofun⟩
  | on _ _ => exact (State.plainBg_congr (State.enterOamSearch_bg _)).2 h

theorem exec_plainBg {i : Instr} {t : State} (ht : exec i s = .next t) : t.plainBg := by
  cases exec_cases ht with
  | tick _ =>
    refine State.dot_keeps (P := State.plainBg) (s := s.quiet) (State.controllerStep_plainBg mono)
      (fun t => (State.plainBg_congr t.oamDmaTick_bg).2) (fun t => (State.plainBg_congr t.vdmaTick_bg).2) h
  | read _ _ | oamDma _ | write _ _ _ _ _ => exact h
  | lcdc d => exact State.writeLcdc_plainBg (s := s.quiet) h d
  | vramDma d _ => exact (State.plainBg_congr (State.vdmaWrite_bg s.quiet d)).2 h

end

theorem State.writeLcdc_cfg (s : State) (d : Byte) : (s.writeLcdc d).cfg = s.cfg := by
  have write := s.writeLcdc_cases d
  generalize s.writeLcdc d = t at write ⊢
  cases write with
  | same _ | off _ _ => rfl
  | on _ _ => exact State.enterOamSearch_cfg _

theorem exec_cfg {i : Instr} {s t : State} (ht : exec i s = .next t) : t.cfg = s.cfg := by
  cases exec_cases ht with
  | tick _ => exact s.quiet.dot_cfg
  | read _ _ | oamDma _ | write _ _ _ _ _ => rfl
  | lcdc d => exact s.quiet.writeLcdc_cfg d
  | vramDma d _ => exact State.vdmaWrite_cfg s.quiet d

theorem exec_monoInv {i : Instr} {s t : State} (h : s.monoInv) (ht : exec i s = .next t) : t.monoInv := by
  rw [State.monoInv_iff] at h ⊢
  intro mono
  rw [exec_cfg ht] at mono
  obtain ⟨color, plain⟩ := h mono
  exact ⟨exec_colorReset mono color ht, exec_plainBg mono plain ht⟩

theorem State.RenderInv.of_inv {s : State} (h : s.inv) : s.RenderInv := (s.inv_iff.1 h).2.2.2.2.2

theorem exec_inv {i : Instr} {s t : State} (wf : i.wf = true) (h : s.inv) (ht : exec i s = .next t) : t.inv := by
  have render := exec_renderInv (.of_inv h) ht
  obtain ⟨mem, fb, line, queue, sprite, dma, mono, -⟩ := h
  exact ⟨exec_memInv wf mem ht, exec_fbInv fb line queue ht, exec_lineInv line ht, exec_queueInv queue ht,
    exec_spriteInv sprite ht, exec_dmaInv dma ht, exec_monoInv mono ht, render.draw, render.hBlank, render.fetchers.waits⟩

/-- A step faults only in a `TICK`. -/
theorem step_fault {s : State} {f : Fault} (h : step s = .fault f) : ∃ rest, exec .tick { s with events := rest } = .fault f := by
  unfold step at h
  split at h
  · cases h
  split at h
  · cases h
  · next rest _ i _ =>
    obtain rfl := exec_fault_tick i _ _ h
    exact ⟨_, h⟩

/-- Settles O58 (R142, R143, R372): only a `TICK` faults, and the budget of DRAW leaves it no 376th dot. -/
theorem drawNeverOverruns : Obligations.DrawNeverOverruns := by
  unfold Obligations.DrawNeverOverruns
  intro s h
  have render := State.RenderInv.of_inv h
  refine ⟨fun hfault => ?_, fun t => step_keeps (fun _ _ => id) (fun _ _ _ => exec_inv) h, render.hBlank⟩
  obtain ⟨rest, htick⟩ := step_fault hfault
  have overruns := ((exec_tick_fault _ _).1 htick).1
  have never : s.drawOverruns = false := render.not_drawOverruns
  exact absurd (overruns.symm.trans never) nofun

end Sys2Proof.Machine
end

section
/-! PROOFS. Host accesses (20_memory.md R72, R74, 46_register_ops.md): which addresses are gated, and that every `RD` and `WR` is
the block's own access where it is not. -/

namespace Sys2Proof.Machine

/-! ### Gating -/

section
variable (s : State) {a : Addr}

theorem State.gated_of_isVram (h : a.isVram = true) : s.gated a = (s.lcdEn && s.ctl.mode == .draw) := by
  simp only [State.gated, busTarget_vram a h]

theorem State.gated_of_isOam (h : a.isOam = true) :
    s.gated a = (s.odma.active || (s.lcdEn && (s.ctl.mode == .draw || s.ctl.mode == .oamSearch))) := by
  simp only [State.gated, busTarget_oam a h]

theorem State.gated_of_isMem (h : a.isMem = true) : s.gated a = false := by
  simp only [State.gated, busTarget_mem a h]

theorem State.gated_of_register (h : a ∈ registerAddresses) : s.gated a = false := by
  fin_cases h <;> rfl

end

theorem isVram_iff (a : Addr) : a.isVram = true ↔ 0x8000 ≤ a.toNat ∧ a.toNat ≤ 0x9FFF := decide_eq_true_iff

theorem isOam_iff (a : Addr) : a.isOam = true ↔ 0xFE00 ≤ a.toNat ∧ a.toNat ≤ 0xFE9F := decide_eq_true_iff

/-- An address outside the two memories of the block is never gated. -/
theorem State.gated_of_neither (s : State) {a : Addr} (hv : a.isVram = false) (ho : a.isOam = false) : s.gated a = false := by
  by_cases hr : a ∈ registerAddresses
  · exact s.gated_of_register hr
  · exact s.gated_of_isMem ((isMem_iff a).2 ⟨hr, hv, ho⟩)

/-- Settles O8 (R74): the two memories of the block one after the other; every other address is free. -/
theorem gatedExactly : Obligations.GatedExactly := by
  unfold Obligations.GatedExactly
  intro s a
  have en : s.lcdEn = s.reg.lcdc.getLsbD 7 := rfl
  simp only [← isOam_iff, ← isVram_iff, ← en]
  have disjoint : a.isVram = true → a.isOam = false := fun hv => by
    rw [isVram_iff] at hv
    rw [← Bool.not_eq_true, isOam_iff]; omega
  cases hv : a.isVram with
  | true => simp [s.gated_of_isVram hv, disjoint hv]
  | false =>
    cases ho : a.isOam with
    | true => simp [s.gated_of_isOam ho]; tauto
    | false => simp [s.gated_of_neither hv ho]

/-! ### Reads -/

/-- Every `RD` answers the bus read of its address (R72). -/
theorem exec_readEvent (s : State) (a : Addr) :
    exec (readEvent (busTarget a) a) s = .next (s.answer (if s.gated a then 0xFF#8 else s.dispatchRead a)) := by
  cases hp : busTarget a with
  | vram | oam => simp only [State.dispatchRead, hp]; rfl
  | lcdc | stat | scy | scx | ly | lyc | dma | bgp | obp0 | obp1 | wy | wx | vbk | hdma1 | hdma2 | hdma3 | hdma4 | hdma5 | bcps | bcpd
  | ocps | ocpd | mem =>
    have free : s.gated a = false := by simp only [State.gated, hp]
    simp only [State.dispatchRead, hp, free]
    rfl

theorem readWord_eq (a : Addr) : 0x40000000#32 ||| (a.setWidth 32 <<< 8) = readWord a := by
  refine BitVec.eq_of_getLsbD_eq fun i hi => ?_
  simp only [readWord, eventWord, BitVec.getLsbD_append, BitVec.getLsbD_or, BitVec.getLsbD_shiftLeft, BitVec.getLsbD_setWidth]
  interval_cases i <;> simp

/-- Settles O6 (R72, R77). -/
theorem hostReadIsGatedBusRead : Obligations.HostReadIsGatedBusRead := by
  unfold Obligations.HostReadIsGatedBusRead
  intro a
  rw [readWord_eq]
  exact ⟨_, decode_readWord a, fun s => exec_readEvent s a⟩

/-- Settles O9 (R260 to R282): each word is decoded by evaluation, each read is its register's rule. -/
theorem storedRegisterReads : Obligations.StoredRegisterReads := by
  unfold Obligations.StoredRegisterReads
  intro s
  refine ⟨?_, ?_, ?_, ?_, ?_, ?_, ?_, ?_, ?_, ?_, ?_⟩ <;> exact ⟨by decide, rfl⟩

/-- Settles O10 (R262): the byte is laid out from its four fields. -/
theorem statReadBits : Obligations.StatReadBits := by
  unfold Obligations.StatReadBits
  refine fun s => ⟨s.statByte, rfl, ?_⟩
  have coin : (BitVec.ofBool s.ctl.coin).toNat = if s.ctl.coin then 1 else 0 := by cases s.ctl.coin <;> rfl
  have mode : s.statMode.toNat = if s.reg.lcdc.getLsbD 7 then s.ctl.mode.code.toNat else 0 := apply_ite ..
  rw [State.statByte, bitVec_append_toNat, bitVec_append_toNat, bitVec_append_toNat, coin, mode]
  cases s.ctl.mode <;> simp only [LcdMode.code] <;> split_ifs <;> simp <;> omega

/-- Settles O11 (R284 to R302): in color mode each byte is laid out from its fields. -/
theorem colorRegisterReads : Obligations.ColorRegisterReads := by
  unfold Obligations.ColorRegisterReads
  intro s
  have vbk : s.vbkByte = if s.cfg.cgbMode = true ∧ s.reg.vbk = 0#1 then 0xFE#8 else 0xFF#8 := by
    have bank : ∀ b : BitVec 1, (0x7F#7 ++ b : Byte) = if b = 0#1 then 0xFE#8 else 0xFF#8 := by decide
    rw [State.vbkByte, State.cgbRead, bank]
    cases s.cfg.cgbMode <;> simp
  have hdma5 : (BitVec.ofBool (s.vdma.mode == .idle) ++ s.vdma.len : Byte) =
      BitVec.ofNat 8 ((if s.vdma.mode = .idle then 0x80 else 0) + s.vdma.len.toNat) := by
    apply BitVec.eq_of_toNat_eq
    have := s.vdma.len.isLt
    have idle : (BitVec.ofBool (s.vdma.mode == .idle)).toNat = if s.vdma.mode = .idle then 1 else 0 := by
      cases s.vdma.mode <;> rfl
    rw [bitVec_append_toNat, BitVec.toNat_ofNat, idle]
    split_ifs <;> omega
  have index : ∀ (inc : Bool) (i : BitVec 6), paletteIndexByte inc i =
      BitVec.ofNat 8 ((if inc then 0x80 else 0) + 0x40 + i.toNat) := by
    intro inc i
    apply BitVec.eq_of_toNat_eq
    have := i.isLt
    rw [paletteIndexByte, bitVec_append_toNat, bitVec_append_toNat, BitVec.toNat_ofNat]
    cases inc <;> simp <;> omega
  refine ⟨by rw [← vbk]; rfl, rfl, rfl, rfl, rfl, by rw [← hdma5]; rfl, by rw [← index]; rfl, rfl, by rw [← index]; rfl, rfl⟩

/-- The conditions under which a host access is gated, as R74 has them. -/
theorem State.gated_vram_iff (s : State) {a : Addr} (h : a.isVram = true) :
    s.gated a = true ↔ s.reg.lcdc.getLsbD 7 = true ∧ s.ctl.mode = .draw := by
  simp [s.gated_of_isVram h, State.lcdEn]

theorem State.gated_oam_iff (s : State) {a : Addr} (h : a.isOam = true) :
    s.gated a = true ↔ s.odma.active = true ∨ (s.reg.lcdc.getLsbD 7 = true ∧ (s.ctl.mode = .oamSearch ∨ s.ctl.mode = .draw)) := by
  simp [s.gated_of_isOam h, State.lcdEn, or_comm]

/-- Settles O12 (R304, R306, R308). -/
theorem memoryReads : Obligations.MemoryReads := by
  unfold Obligations.MemoryReads
  refine fun s a => ⟨fun h => ?_, fun h => ?_, rfl⟩
  · simp only [← s.gated_vram_iff h]; rfl
  · simp only [← s.gated_oam_iff h]; rfl

end Sys2Proof.Machine
end

section
/-! PROOFS. Host writes (46_register_ops.md R261 to R309, 45_vram_dma.md R240 to R246): what each `WR` stores and its frame. -/

namespace Sys2Proof.Machine

/-! ### The answer of a write -/

/-- Counting the signals of an event that answered no byte is answering and counting its set (R45). -/
theorem State.countSignals_eq {s : State} (h : s.out.data = none) : s.countSignals = s.withSignals s.out.signals := by
  have out : s.out = { signals := s.out.signals, data := none } := by rw [← h]
  have count : ∀ b : Bool, b.toNat = if b then 1 else 0 := by decide
  unfold State.countSignals State.withSignals
  rw [count, count, count, ← out]

/-- An event that answered nothing has no signal to count. -/
theorem State.withSignals_of_silent {s : State} (h : s.out = Output.none) : s.withSignals s.out.signals = s := by
  have out : s = { s with out := Output.none } := by rw [← h]
  rw [out]; rfl

theorem State.cgbWrite_out {s t : State} (h : t.out = s.out) : (s.cgbWrite t).out = s.out := by
  unfold State.cgbWrite; split_ifs
  · exact h
  · rfl

/-- Only `WR.LCDC` raises a signal (R339). -/
theorem State.dispatchWrite_out {s : State} {a : Addr} (d : Byte) (h : busTarget a ≠ .lcdc) : (s.dispatchWrite a d).out = s.out := by
  cases hp : busTarget a with
  | lcdc => exact absurd hp h
  | stat | scy | scx | ly | lyc | dma | bgp | obp0 | obp1 | wy | wx | vram | oam | mem => simp only [State.dispatchWrite, hp]; rfl
  | vbk | hdma1 | hdma2 | hdma3 | hdma4 | bcps | bcpd | ocps | ocpd =>
    simp only [State.dispatchWrite, hp]
    exact State.cgbWrite_out rfl
  | hdma5 =>
    simp only [State.dispatchWrite, hp]
    exact State.cgbWrite_out (State.vdmaWrite_out s d)

theorem State.writeLcdc_data (s : State) (d : Byte) : (s.writeLcdc d).out.data = s.out.data := by
  have write := s.writeLcdc_cases d
  generalize s.writeLcdc d = t at write ⊢
  cases write with
  | same _ | off _ _ => rfl
  | on _ _ => unfold State.enterOamSearch; dsimp only; rw [State.raiseIf_data, State.raiseIf_data]

/-- Every `WR` of a free address is the bus write, and its signals are its answer (R72, R45). -/
theorem exec_writeEvent_of_free (s : State) (a : Addr) (d : Byte) (h : s.gated a = false) : exec (writeEvent (busTarget a) a d) s =
    .next ((s.quiet.dispatchWrite a d).withSignals (s.quiet.dispatchWrite a d).out.signals) := by
  cases hp : busTarget a with
  | lcdc =>
    simp only [State.dispatchWrite, hp]
    rw [← State.countSignals_eq (s.quiet.writeLcdc_data d)]; rfl
  | vram | oam =>
    rw [State.withSignals_of_silent (State.dispatchWrite_out d (by simp [hp]))]
    simp only [State.dispatchWrite, hp, writeEvent, exec, execWrVram, execWrOam, h]
    rfl
  | stat | scy | scx | ly | lyc | dma | bgp | obp0 | obp1 | wy | wx | vbk | hdma1 | hdma2 | hdma3 | hdma4 | hdma5 | bcps | bcpd
  | ocps | ocpd | mem =>
    rw [State.withSignals_of_silent (State.dispatchWrite_out d (by simp [hp]))]
    simp only [State.dispatchWrite, hp]; rfl

/-- A gated `WR` does nothing (R72). -/
theorem exec_writeEvent_of_gated (s : State) (a : Addr) (d : Byte) (h : s.gated a = true) :
    exec (writeEvent (busTarget a) a d) s = .next s.quiet := by
  cases hp : busTarget a with
  | vram | oam => simp only [writeEvent, exec, execWrVram, execWrOam, h, if_true]
  | lcdc | stat | scy | scx | ly | lyc | dma | bgp | obp0 | obp1 | wy | wx | vbk | hdma1 | hdma2 | hdma3 | hdma4 | hdma5 | bcps | bcpd
  | ocps | ocpd | mem => simp [State.gated, hp] at h

theorem writeWord_eq (a : Addr) (d : Byte) :
    0x80000000#32 ||| (a.setWidth 32 <<< 8) ||| d.setWidth 32 = writeWord a d := by
  refine BitVec.eq_of_getLsbD_eq fun i hi => ?_
  simp only [writeWord, eventWord, BitVec.getLsbD_append, BitVec.getLsbD_or, BitVec.getLsbD_shiftLeft, BitVec.getLsbD_setWidth]
  interval_cases i <;> simp

/-- Settles O7 (R72, R45). -/
theorem hostWriteIsGatedBusWrite : Obligations.HostWriteIsGatedBusWrite := by
  unfold Obligations.HostWriteIsGatedBusWrite
  intro a d
  rw [writeWord_eq]
  refine ⟨_, decode_writeWord a d, fun s => ?_⟩
  cases hg : s.gated a with
  | true => exact ⟨s.silent, exec_writeEvent_of_gated s a d hg, fun _ => rfl, nofun⟩
  | false => exact ⟨_, exec_writeEvent_of_free s a d hg, nofun, fun _ => rfl⟩

/-! ### LCDC and the other stored registers -/

section
variable {s : State} {d : Byte}

theorem State.writeLcdc_of_same (h : d.getLsbD 7 = s.lcdEn) : s.writeLcdc d = { s with reg := { s.reg with lcdc := d } } := by
  unfold State.writeLcdc; dsimp only; rw [h]; cases s.lcdEn <;> rfl

theorem State.writeLcdc_of_off (before : s.lcdEn = true) (after : d.getLsbD 7 = false) :
    s.writeLcdc d = State.lcdDisable { s with reg := { s.reg with lcdc := d } } := by
  unfold State.writeLcdc; dsimp only; rw [before, after]; rfl

theorem State.writeLcdc_of_on (before : s.lcdEn = false) (after : d.getLsbD 7 = true) :
    s.writeLcdc d = State.enterOamSearch { s with reg := { s.reg with lcdc := d } } := by
  unfold State.writeLcdc; dsimp only; rw [before, after]; rfl

end

/-- Settles O13 (R261 to R283): each register's write rule. -/
theorem storedRegisterWrites : Obligations.StoredRegisterWrites := by
  unfold Obligations.StoredRegisterWrites
  refine fun s d => ⟨fun h => ?_, rfl, rfl, rfl, rfl, rfl, rfl, rfl, rfl, rfl⟩
  show Host.Outcome.next (s.quiet.writeLcdc d).countSignals = _
  rw [State.writeLcdc_of_same (s := s.quiet) h]; rfl

/-- Settles O14 (R263). -/
theorem statWriteBits : Obligations.StatWriteBits := by
  unfold Obligations.StatWriteBits
  intro s d
  have field : d.extractLsb' 3 4 = BitVec.ofNat 4 (d.toNat / 8) := by
    rw [BitVec.extractLsb', Nat.shiftRight_eq_div_pow]
  refine ⟨by rw [← field]; rfl, ?_⟩
  rintro rfl en mode coin t ht
  injection ht with ht
  subst ht
  have byte : (s.quiet.writeStat 0xFF#8).statByte = 0xF9#8 := by
    have hmode : (s.quiet.writeStat 0xFF#8).statMode = 1#2 := by
      show (if s.reg.lcdc.getLsbD 7 then s.ctl.mode.code else 0) = 1#2
      rw [if_pos en, mode]; rfl
    rw [State.statByte, hmode]
    show 1#1 ++ BitVec.extractLsb' 3 4 0xFF#8 ++ BitVec.ofBool s.ctl.coin ++ 1#2 = 0xF9#8
    rw [coin]; decide
  rw [← byte]; rfl

/-- Settles O15 (R144, R261). -/
theorem displayOffResets : Obligations.DisplayOffResets := by
  unfold Obligations.DisplayOffResets
  intro s d before after
  have written : exec (.wrLcdc d) s = .next (State.lcdDisable { s.quiet with reg := { s.reg with lcdc := d } }).countSignals := by
    show Host.Outcome.next (s.quiet.writeLcdc d).countSignals = _
    rw [State.writeLcdc_of_off (s := s.quiet) before after]; rfl
  refine ⟨_, written, rfl, if_neg (by simpa [State.lcdEn] using after), rfl, fun a => ?_⟩
  generalize ht : State.countSignals _ = t
  have off : t.lcdEn = false := by subst ht; exact after
  by_cases hv : a.isVram = true
  · have ho : a.isOam = false := by
      rw [isVram_iff] at hv
      rw [← Bool.not_eq_true, isOam_iff]; omega
    simp [t.gated_of_isVram hv, off, ho]
  · cases ho : a.isOam with
    | true => simp [t.gated_of_isOam ho, off]
    | false => simp [t.gated_of_neither (by simpa using hv) ho]

/-- The signal set that has STAT_IRQ if `b`. -/
theorem statSignals (b : Bool) :
    (if b then Signals.none.add .statIrq else Signals.none) = { vblankIrq := false, statIrq := b, frameReady := false } := by
  cases b <;> rfl

/-- The entry of OAM_SEARCH by an event that has answered nothing yet (R132). -/
theorem State.enterOamSearch_eq {s : State} (h : s.out = Output.none) : s.enterOamSearch = { s with
    ctl := { s.ctl with mode := .oamSearch, modeDot := 0, wyTrigger := s.wyReached, wxTrigger := false, coin := s.coincides }
    out := { signals := { vblankIrq := false
                          statIrq := (s.coincides && s.lycIe) || (s.cfg.statOamIrq && s.oamIe)
                          frameReady := false }
             data := none } } := by
  have signals := s.enterOamSearch_signals
  have data : s.enterOamSearch.out.data = none := by
    unfold State.enterOamSearch; dsimp only; rw [State.raiseIf_data, State.raiseIf_data, h]; rfl
  rw [h, Output.none, statSignals] at signals
  rw [enterOamSearch_frame, State.enterOamSearch_ctl, ← signals, ← data]

/-- Settles O16 (R145, R132, R261). -/
theorem displayOnEntersOamSearch : Obligations.DisplayOnEntersOamSearch := by
  unfold Obligations.DisplayOnEntersOamSearch
  intro s d before after
  show Host.Outcome.next (s.quiet.writeLcdc d).countSignals = _
  rw [State.writeLcdc_of_on (s := s.quiet) before after, State.enterOamSearch_eq rfl, State.countSignals_eq rfl]
  rfl

/-- Settles O17 (R230, R111, R234). -/
theorem writeDmaStartsTransfer : Obligations.WriteDmaStartsTransfer := by
  unfold Obligations.WriteDmaStartsTransfer
  intro s d
  have src : oamDmaSource d = BitVec.ofNat 16 (256 * d.toNat) := by
    rw [← oamDmaSource_toNat, BitVec.ofNat_toNat, BitVec.setWidth_eq]
  rw [← src]; rfl

/-! ### The registers of color mode -/

theorem State.cgbWrite_of_cgb {s t : State} (h : s.cfg.cgbMode = true) : s.cgbWrite t = t := if_pos h

theorem State.cgbWrite_of_mono {s t : State} (h : s.cfg.cgbMode = false) : s.cgbWrite t = s := if_neg (by simp [h])

theorem exec_of_cgb {i : Instr} {s t : State} (cgb : s.cfg.cgbMode = true) (h : exec i s = .next (s.quiet.cgbWrite t)) :
    exec i s = .next t := by
  rw [h, State.cgbWrite_of_cgb (s := s.quiet) cgb]

theorem exec_of_mono {i : Instr} {s t : State} (mono : s.cfg.cgbMode = false) (h : exec i s = .next (s.quiet.cgbWrite t)) :
    exec i s = .next s.silent := by
  rw [h, State.cgbWrite_of_mono (s := s.quiet) mono]; rfl

theorem getLsbD_seven (d : Byte) : d.getLsbD 7 = decide (128 ≤ d.toNat) := by
  rw [← BitVec.msb_eq_getLsbD_last d, BitVec.msb_eq_decide]

/-- Settles O18 (R285 to R301). -/
theorem colorRegisterWrites : Obligations.ColorRegisterWrites := by
  unfold Obligations.ColorRegisterWrites
  intro s d cgb
  rw [← getLsbD_seven]
  refine ⟨?_, ?_, ?_, ?_, ?_, ?_, ?_⟩ <;> exact exec_of_cgb cgb rfl

theorem nextPaletteIndex_eq (inc : Bool) (i : BitVec 6) :
    nextPaletteIndex inc i = if inc then BitVec.ofNat 6 (i.toNat + 1) else i := by
  rw [BitVec.ofNat_add, BitVec.ofNat_toNat, BitVec.setWidth_eq]; rfl

/-- What a store of one byte leaves: that byte, every other byte, the framebuffer. -/
theorem State.poke_bytes (s : State) (p : Space) (a : Nat) (v : Byte) :
    (s.poke p a v).peek p a = v ∧ SameBytesExcept s (s.poke p a v) p (· = a) ∧ (s.poke p a v).mem.fb = s.mem.fb :=
  ⟨s.peek_poke_same p a v, fun q b h => by rw [State.peek_poke, if_neg h], Memories.store_fb _ _ _ _⟩

/-- Settles O19 (R299, R303): a store into the palette memory, then the index. -/
theorem paletteDataWrites : Obligations.PaletteDataWrites := by
  unfold Obligations.PaletteDataWrites
  intro s d cgb
  simp only [← nextPaletteIndex_eq]
  obtain ⟨bg, bgRest, bgFb⟩ := s.poke_bytes .bgpal s.reg.bcpsIdx.toNat d
  obtain ⟨obj, objRest, objFb⟩ := s.poke_bytes .objpal s.reg.ocpsIdx.toNat d
  exact ⟨⟨_, exec_of_cgb cgb rfl, bg, bgRest, bgFb, rfl⟩, ⟨_, exec_of_cgb cgb rfl, obj, objRest, objFb, rfl⟩⟩

/-- Settles O23 (R368, R249). -/
theorem monochromeIgnoresColorRegisters : Obligations.MonochromeIgnoresColorRegisters := by
  unfold Obligations.MonochromeIgnoresColorRegisters
  refine ⟨fun s d mono => ?_, fun s t h => step_keeps (fun _ _ => id) (fun _ _ _ _ h => exec_monoInv h) h⟩
  have reads : ∀ v : Byte, s.answer (s.cgbRead v) = s.withAnswer 0xFF#8 := fun v => by rw [State.cgbRead, mono]; rfl
  simp only [List.forall_mem_cons, List.not_mem_nil, false_imp_iff, implies_true, and_true]
  refine ⟨⟨?_, ?_, ?_, ?_, ?_, ?_, ?_, ?_, ?_, ?_⟩, ?_, rfl, rfl, rfl, rfl, ?_, ?_, ?_, ?_, ?_⟩
  iterate 10 exact exec_of_mono mono rfl
  iterate 6 exact congrArg Host.Outcome.next (reads _)

/-! ### The memory rows -/

/-- A `WR` of a memory row stores its byte unless it is gated, and leaves everything else (R72). -/
theorem gatedPoke_bytes (s : State) (p : Space) (a : Nat) (v : Byte) (c : Prop) [Decidable c] {t : State}
    (ht : t = if c then s.quiet else s.quiet.poke p a v) :
    t.peek p a = (if c then s.peek p a else v) ∧ SameBytesExcept s t p (· = a) ∧ t.mem.fb = s.mem.fb ∧
      t = { s.silent with mem := t.mem } := by
  obtain ⟨byte, rest, fb⟩ := s.quiet.poke_bytes p a v
  subst ht
  split_ifs
  · exact ⟨rfl, fun _ _ _ => rfl, rfl, rfl⟩
  · exact ⟨byte, rest, fb, rfl⟩

/-- Settles O22 (R305, R307, R309). -/
theorem memoryWrites : Obligations.MemoryWrites := by
  unfold Obligations.MemoryWrites
  refine fun s a d => ⟨fun h => ?_, fun h => ?_, ?_⟩
  · simp only [← s.gated_vram_iff h]
    exact ⟨_, rfl, gatedPoke_bytes s _ _ d _ rfl⟩
  · simp only [← s.gated_oam_iff h]
    exact ⟨_, rfl, gatedPoke_bytes s .oam _ d _ rfl⟩
  · exact ⟨_, rfl, gatedPoke_bytes s .ext a.toNat d False rfl⟩

end Sys2Proof.Machine
end

section
/-! PROOFS. `WR.HDMA5` (45_vram_dma.md R240 to R246) and the state after reset (10_state.md R50). -/

namespace Sys2Proof.Machine

/-! ### The block's own read, and what a copy leaves -/

/-- The block's own read depends on the registers, the memories, LY and the fields of STAT and HDMA5 alone (R72). -/
theorem State.memRead_congr {s t : State} (cfg : t.cfg = s.cfg) (reg : t.reg = s.reg) (mem : t.mem = s.mem)
    (ctl : t.ctl.mode = s.ctl.mode ∧ t.ctl.ly = s.ctl.ly ∧ t.ctl.coin = s.ctl.coin)
    (vdma : t.vdma.mode = s.vdma.mode ∧ t.vdma.len = s.vdma.len) (a : Addr) : t.memRead a = s.memRead a := by
  obtain ⟨mode, ly, coin⟩ := ctl
  obtain ⟨engine, len⟩ := vdma
  have peek := State.peek_congr s t mem
  simp only [State.memRead, State.busRead, State.dispatchRead, State.statByte, State.statMode, State.lcdEn, State.vbkByte,
    State.hdma5Byte, State.bcpsByte, State.bcpdByte, State.ocpsByte, State.ocpdByte, State.cgbRead, State.vramRead, State.oamRead,
    Bool.not_true, Bool.false_and, Bool.false_eq_true, if_false, cfg, reg, mode, ly, coin, engine, len, peek] <;> rfl

/-- A destination counts from the beginning of video memory. -/
theorem vdmaCell_base (dst j : Nat) : vdmaCell (0x8000 + dst) j = vdmaCell dst j := by unfold vdmaCell; omega

theorem CopiedBytes.congr {u u' t t' : State} {src dst dst' n : Nat} (h : CopiedBytes u t src dst n) (reg : u'.reg = u.reg)
    (mem : u'.mem = u.mem) (read : ∀ a, u'.memRead a = u.memRead a) (cell : ∀ j, vdmaCell dst' j = vdmaCell dst j)
    (copy : ∀ j < n, t'.peek (vramSpace u.reg.vbk) (vdmaCell dst j) = t.peek (vramSpace u.reg.vbk) (vdmaCell dst j)) :
    CopiedBytes u' t' src dst' n := by
  intro j a hj ha
  obtain ⟨other, ext, oam, vram, again⟩ := h j a hj ha
  have peek := State.peek_congr u u' mem
  simp only [reg, read, cell, peek, copy j hj]
  refine ⟨other, ext, oam, vram, fun i hi he => ?_⟩
  rw [copy i (hi.trans hj)]
  exact again i hi he

/-! ### `WR.HDMA5` -/

section
variable {s : State} {v : Byte}

theorem State.vdmaWrite_of_general (mode : s.vdma.mode = .general) : s.vdmaWrite v = s := by
  simp only [State.vdmaWrite, mode]

theorem State.vdmaWrite_of_cancel (mode : s.vdma.mode = .hblank) (bit : vdmaHblankBit v = false) :
    s.vdmaWrite v = s.setVdmaMode .idle := by
  simp only [State.vdmaWrite, mode, bit, Bool.false_eq_true, if_false]

theorem State.vdmaWrite_of_hblank (mode : s.vdma.mode ≠ .general) (bit : vdmaHblankBit v = true) :
    s.vdmaWrite v = s.startHblank v := by
  unfold State.vdmaWrite
  cases hm : s.vdma.mode with
  | general => exact absurd hm mode
  | hblank | idle => simp only [bit, if_true]

theorem State.vdmaWrite_of_idle (mode : s.vdma.mode = .idle) (bit : vdmaHblankBit v = false) :
    s.vdmaWrite v = s.startGeneral v := by
  simp only [State.vdmaWrite, mode, bit, Bool.false_eq_true, if_false]

end

/-- Settles O20 (R240, R245, R112). -/
theorem hdma5WriteControlsHblankTransfer : Obligations.Hdma5WriteControlsHblankTransfer := by
  unfold Obligations.Hdma5WriteControlsHblankTransfer
  intro s d cgb
  have written : exec (.wrHdma5 d) s = .next (s.quiet.vdmaWrite d) := exec_of_cgb cgb rfl
  refine ⟨fun mode => ?_, fun mode bit => ?_, fun mode bit => ?_⟩
  · rw [written, State.vdmaWrite_of_general (s := s.quiet) mode]; rfl
  · rw [written, State.vdmaWrite_of_cancel (s := s.quiet) mode bit]; rfl
  · rw [State.vdmaWrite_of_hblank (s := s.quiet) mode bit] at written
    exact ⟨_, written, rfl, rfl, vdmaSource_toNat _ _, vdmaDest_toNat _ _, vdmaBlocksOf_eq d, vdmaLenField_toNat d, rfl, rfl⟩

/-- Settles O21 (R240, R241, R246, R112): a general transfer is one copy of all its bytes. -/
theorem generalTransferCopiesAtOnce : Obligations.GeneralTransferCopiesAtOnce := by
  unfold Obligations.GeneralTransferCopiesAtOnce
  intro s d cgb mode bit
  have written : exec (.wrHdma5 d) s = .next (s.quiet.vdmaWrite d) := exec_of_cgb cgb rfl
  obtain ⟨stop, cell, started⟩ := s.quiet.startGeneral_eq d
  rw [State.vdmaWrite_of_idle (s := s.quiet) mode bit, started] at written
  have frame := (s.quiet.loaded d).vdmaBytes_frame (16 * vdmaBlocksOf d)
  have fb := (s.quiet.loaded d).vdmaBytes_fb (16 * vdmaBlocksOf d)
  have copied := (s.quiet.loaded d).vdmaBytes_copied (16 * vdmaBlocksOf d)
    (by have := vdmaBlocksOf_eq d; omega)
  have other := (s.quiet.loaded d).vdmaBytes_peek_other (16 * vdmaBlocksOf d)
  have blocks := vdmaBlocksOf_eq d
  have src := vdmaSource_toNat s.reg.hdma1 s.reg.hdma2
  have dst := vdmaDest_toNat s.reg.hdma3 s.reg.hdma4
  refine ⟨_, written, ?_, fb, rfl, rfl, rfl, congrArg (64 * ·) blocks, vdmaLenField_toNat d, ?_⟩
  · rw [frame]; rfl
  rintro _ _ _ rfl rfl rfl
  rw [← src, ← blocks]
  change stop.toNat = vdmaCell (vdmaDest s.reg.hdma3 s.reg.hdma4).toNat (16 * vdmaBlocksOf d) at cell
  change CopiedBytes _ _ (vdmaSource s.reg.hdma1 s.reg.hdma2).toNat (vdmaDest s.reg.hdma3 s.reg.hdma4).toNat _ at copied
  change ∀ p x, ¬(p = vramSpace s.reg.vbk ∧ ∃ j < _, x = vdmaCell (vdmaDest s.reg.hdma3 s.reg.hdma4).toNat j) → _ at other
  rw [dst] at cell copied
  simp only [dst, vdmaCell_base] at other
  refine ⟨?_, by rw [vdmaCell_base] at cell; exact cell, fun p x h => ?_,
    copied.congr rfl rfl (fun a => ?_) (fun j => (vdmaCell_base _ j).symm)
    fun j _ => rfl⟩
  · show (vdmaSource s.reg.hdma1 s.reg.hdma2 + BitVec.ofNat 16 (16 * vdmaBlocksOf d)).toNat = _
    rw [BitVec.toNat_add, BitVec.toNat_ofNat, Nat.add_mod_mod]
  · exact other p x h
  · exact State.memRead_congr (s := s.quiet.loaded d) rfl rfl rfl ⟨rfl, rfl, rfl⟩ ⟨rfl, rfl⟩ a

/-! ### Reset -/

theorem State.resetWith_inv (p : Parameters) : (State.resetWith p).inv := by
  refine ⟨State.resetWith_memInv p, State.resetWith_fbInv p, State.lineInv_of_lineStart rfl rfl rfl, ?_, ?_, ?_, ?_, ?_⟩
  · exact ⟨Nat.zero_le _, Nat.zero_le _, Nat.zero_le _, nofun, Nat.zero_le _, rfl, rfl, nofun⟩
  · exact ⟨Nat.zero_le _, nofun, Nat.zero_le _, fun _ => rfl, fun _ => Nat.zero_le _, fun h => absurd rfl h⟩
  · have addresses : 0x8000 ≤ (0x8000#16 : Addr).toNat ∧ (0x8000#16 : Addr).toNat ≤ 0x9FFF ∧ (0x8000#16 : Addr).toNat % 16 = 0 ∧
        (0#16 : Addr).toNat % 16 = 0 := by decide
    exact ⟨⟨Nat.zero_le _, nofun, rfl⟩, addresses, Nat.zero_le _, nofun, nofun⟩
  · exact fun _ => ⟨rfl, rfl, rfl, rfl, rfl, rfl, rfl, rfl, rfl, rfl, rfl, rfl, rfl, rfl, nofun⟩
  · exact ⟨nofun, nofun, nofun⟩

/-- Settles O53 (R50, R360): the reset values are written in the model as the statement lists them. -/
theorem resetState : Obligations.ResetState := by
  unfold Obligations.ResetState
  rintro p s rfl
  have bytes : ∀ sp a, (State.resetWith p).peek sp a = Config.initByte sp a := fun sp a => by cases sp <;> rfl
  have off : (State.resetWith p).lcdEn = false := by simp [State.lcdEn, State.resetWith, Regs.reset]
  have stat : (State.resetWith p).statByte = 0x80#8 := by
    rw [State.statByte, State.statMode, off]
    show 1#1 ++ 0#4 ++ BitVec.ofBool false ++ 0#2 = 0x80#8
    decide
  refine ⟨off, ?_⟩
  repeat refine ⟨rfl, ?_⟩
  refine ⟨bytes, fun _ _ => rfl, stat, ?_⟩
  exact ⟨rfl, rfl, rfl, rfl, rfl, rfl, rfl, State.resetWith_inv p⟩

end Sys2Proof.Machine
end

section
/-! PROOFS. The dots of the controller (40_mode_controller.md R130 to R145). `completes_tick` reduces a `TICK` to the controller's
phase; each mode's phase is then one equation. -/

namespace Sys2Proof.Machine

/-! ### A `TICK` and the controller's phase -/

/-- What a `TICK` at `s` leaves of the controller and the renderer when the controller's phase leaves `u`, and its answer. -/
structure TickLeaves (s u t : State) : Prop where
  ctl : t.ctl = u.ctl
  bg : t.bg = u.bg
  sp : t.sp = u.sp
  lx : t.lx = u.lx
  fb : t.mem.fb = u.mem.fb
  raised : ∀ g, u.out = { signals := g, data := none } → Raised s t g

theorem TickLeaves.sameRenderer {r s u t : State} (h : TickLeaves s u t) (hu : SameRenderer r u) : SameRenderer r t := by
  obtain ⟨bg, sp, lx, fb⟩ := hu
  exact ⟨h.bg.trans bg, h.sp.trans sp, h.lx.trans lx, h.fb.trans fb⟩

theorem State.oamDmaTick_fb (s : State) : s.oamDmaTick.mem.fb = s.mem.fb := by
  obtain hm | ⟨u, hu, hm⟩ := s.oamDmaTick_mem_cases
  · rw [hm]
  · rw [hm, State.oamDmaCopy_fb, hu]

theorem State.dot_fb (s : State) : s.dot.mem.fb = s.phase.mem.fb := by
  rw [State.dot_eq, State.vdmaTick_mem, State.oamDmaTick_fb]

theorem tickLeaves (s : State) : TickLeaves s s.quiet.phase s.quiet.dot.countSignals where
  ctl := s.quiet.dot_ctl
  bg := s.quiet.dot_bg
  sp := s.quiet.dot_sp
  lx := s.quiet.dot_lx
  fb := s.quiet.dot_fb
  raised g hout := by
    have out : s.quiet.dot.out = { signals := g, data := none } := s.quiet.dot_out.trans hout
    have cnt : s.quiet.dot.cnt = s.cnt := s.quiet.dot_cnt
    rw [State.countSignals_eq (by rw [out]), out]
    exact ⟨rfl, by rw [State.withSignals_cnt, State.withSignals_cnt, cnt]⟩

/-- A `TICK` that is not DRAW's 376th dot completes, and is known by the controller's phase. -/
theorem completes_tick {s u : State} {P : State → Prop} (completes : s.drawOverruns = false) (phase : s.quiet.phase = u)
    (h : ∀ t, TickLeaves s u t → P t) : Completes .tick s P :=
  ⟨_, (exec_tick_next s _).2 ⟨completes, rfl⟩, h _ (phase ▸ tickLeaves s)⟩

theorem drawOverruns_of_mode {s : State} (mode : s.ctl.mode ≠ .draw) : s.drawOverruns = false := by
  simp [State.drawOverruns, mode]

theorem drawOverruns_of_dot {s : State} (dot : s.ctl.modeDot < 375) : s.drawOverruns = false := by
  simp [State.drawOverruns]; omega

section
variable {s : State} (en : s.lcdEn = true)
include en

theorem State.phase_of_oamSearch (mode : s.ctl.mode = .oamSearch) : s.phase = s.nextDot.oamSearchDot :=
  (State.phase_of_on en).trans (s.controllerStep_oamSearch mode)
theorem State.phase_of_draw (mode : s.ctl.mode = .draw) : s.phase = s.nextDot.drawDot :=
  (State.phase_of_on en).trans (s.controllerStep_draw mode)
theorem State.phase_of_hBlank (mode : s.ctl.mode = .hBlank) : s.phase = s.nextDot.hblankDot :=
  (State.phase_of_on en).trans (s.controllerStep_hBlank mode)
theorem State.phase_of_vBlank (mode : s.ctl.mode = .vBlank) : s.phase = s.nextDot.vblankDot :=
  (State.phase_of_on en).trans (s.controllerStep_vBlank mode)

end

/-- Settles O24 (R142, R331). -/
theorem tickCompletesOrOverruns : Obligations.TickCompletesOrOverruns := by
  unfold Obligations.TickCompletesOrOverruns
  refine fun s => ⟨fun h => ?_, fun en mode dot => (exec_tick_fault s _).2 ⟨(drawOverruns_iff s).2 ⟨en, mode, dot⟩, rfl⟩⟩
  exact ⟨_, (exec_tick_next s _).2 ⟨by rw [← Bool.not_eq_true, drawOverruns_iff]; exact h, rfl⟩⟩

theorem State.oamDmaTick_of_inactive {s : State} (h : s.odma.active = false) : s.oamDmaTick = s := if_neg (by simp [h])

theorem State.vdmaTick_of_notGeneral {s : State} (h : s.vdma.mode ≠ .general) : s.vdmaTick = s := if_neg h

/-- Settles O26 (R130, R345). -/
theorem tickWithDisplayOff : Obligations.TickWithDisplayOff := by
  unfold Obligations.TickWithDisplayOff
  intro s off
  have phase : s.quiet.phase = s.quiet := State.phase_of_off off
  have completes : s.drawOverruns = false := by simp [State.drawOverruns, show s.lcdEn = false from off]
  have tick := phase ▸ tickLeaves s
  refine ⟨_, (exec_tick_next s _).2 ⟨completes, rfl⟩, tick.ctl, tick.sameRenderer ⟨rfl, rfl, rfl, rfl⟩, tick.raised _ rfl,
    fun odma vdma => ?_⟩
  rw [State.dot_eq, phase, State.oamDmaTick_of_inactive (s := s.quiet) odma, State.vdmaTick_of_notGeneral (s := s.quiet) vdma]
  rfl

/-! ### OAM_SEARCH, the end of DRAW -/

/-- Settles O27 (R133, R134). -/
theorem oamSearchDots : Obligations.OamSearchDots := by
  unfold Obligations.OamSearchDots
  intro s en mode
  have completes := drawOverruns_of_mode (s := s) (by simp [mode])
  have phase := State.phase_of_oamSearch (s := s.quiet) en mode
  refine ⟨fun early => ?_, fun last => ?_⟩
  · have dot : s.quiet.nextDot.oamSearchDot = s.quiet.nextDot := if_neg early
    exact completes_tick completes (phase.trans dot) fun t tick =>
      ⟨tick.ctl, tick.sameRenderer ⟨rfl, rfl, rfl, rfl⟩, tick.raised _ rfl⟩
  · have dot : s.quiet.nextDot.oamSearchDot = s.quiet.nextDot.collectSprites.enterDraw := if_pos last
    exact completes_tick completes (phase.trans dot) fun t tick =>
      ⟨tick.ctl, tick.lx, tick.bg, tick.sp, tick.fb, tick.raised _ rfl⟩

/-- The entry of H_BLANK by an event that has answered nothing yet (R137). -/
theorem State.enterHBlank_eq {s : State} (h : s.out = Output.none) : s.enterHBlank = { s with
    ctl := { s.ctl with mode := .hBlank, modeDot := 0, hblankCopied := false }
    out := { signals := { vblankIrq := false, statIrq := s.hblankIe, frameReady := false }, data := none } } := by
  have signals := s.enterHBlank_signals
  have data : s.enterHBlank.out.data = none := by unfold State.enterHBlank; rw [State.raiseIf_data]; exact congrArg Output.data h
  rw [h, Output.none, statSignals] at signals
  rw [enterHBlank_frame, State.enterHBlank_ctl, ← signals, ← data]

/-- Settles O30 (R135, R137). -/
theorem drawEndsAtColumn160 : Obligations.DrawEndsAtColumn160 := by
  unfold Obligations.DrawEndsAtColumn160
  intro s en mode dot hlx
  have phase := State.phase_of_draw (s := s.quiet) en mode
  have ends : s.quiet.nextDot.drawDot = s.quiet.nextDot.endDraw := if_pos hlx
  rw [ends, State.endDraw, State.enterHBlank_eq rfl] at phase
  have rest : 376 - (s.ctl.modeDot + 1) = 375 - s.ctl.modeDot := by omega
  refine completes_tick (drawOverruns_of_dot dot) phase fun t tick =>
    ⟨?_, tick.sameRenderer ⟨rfl, rfl, rfl, rfl⟩, tick.raised _ rfl⟩
  rw [tick.ctl, ← rest]; rfl

/-! ### H_BLANK and the end of a line -/

/-- The block copy of an H_BLANK dot marks the period where an hblank transfer runs (R244). -/
theorem State.vdmaHblankCopy_copied (s : State) :
    s.vdmaHblankCopy.ctl = { s.ctl with hblankCopied := s.ctl.hblankCopied || decide (s.vdma.mode = .hblank) } := by
  rw [State.vdmaHblankCopy_ctl]
  unfold State.vdmaHblankCopy State.hblankCopyDue State.hblankCopy
  split_ifs with due
  · simp at due
    dsimp only; split_ifs <;> simp [due]
  · cases hm : s.vdma.mode <;> cases hc : s.ctl.hblankCopied <;> simp_all

theorem State.hblankDot_sameRenderer (s : State) : SameRenderer s s.hblankDot :=
  ⟨s.hblankDot_bg, s.hblankDot_sp, s.hblankDot_lx, s.hblankDot_fb⟩

/-- A dot of H_BLANK before its last (R138). -/
theorem State.hblankDot_of_notLast {s : State} (h : s.ctl.modeDot ≠ s.ctl.hblankLen) : s.hblankDot = s.vdmaHblankCopy :=
  if_neg (by rw [State.vdmaHblankCopy_ctl]; exact h)

theorem State.hblankDot_of_last {s : State} (h : s.ctl.modeDot = s.ctl.hblankLen) : s.hblankDot = s.vdmaHblankCopy.endOfLine :=
  if_pos (by rw [State.vdmaHblankCopy_ctl]; exact h)

theorem ly_succ_eq_144 (ly : Byte) : ly + 1#8 = 144#8 ↔ ly = 143#8 := by
  rw [← BitVec.toNat_inj, ← BitVec.toNat_inj, BitVec.toNat_add]
  have := ly.isLt
  simp; omega

theorem State.endOfLine_of_143 {s : State} (h : s.ctl.ly = 143#8) : s.endOfLine = s.nextLine.enterVBlank :=
  if_pos ((ly_succ_eq_144 _).2 h)

theorem State.endOfLine_of_not_143 {s : State} (h : s.ctl.ly ≠ 143#8) : s.endOfLine = s.nextLine.enterOamSearch :=
  if_neg fun hly => h ((ly_succ_eq_144 _).1 hly)

/-- The entry of V_BLANK by an event that has answered nothing yet (R140). -/
theorem State.enterVBlank_eq {s : State} (h : s.out = Output.none) : s.enterVBlank = { s with
    ctl := { s.ctl with mode := .vBlank, modeDot := 0 }
    out := { signals := { vblankIrq := true, statIrq := s.vblankIe, frameReady := true }, data := none } } := by
  have signals : s.enterVBlank.out.signals = { vblankIrq := true, statIrq := s.vblankIe, frameReady := true } := by
    rw [State.enterVBlank_signals, h]; rfl
  have data : s.enterVBlank.out.data = none := by
    unfold State.enterVBlank; dsimp only; rw [State.raiseIf_data]; exact congrArg Output.data h
  rw [enterVBlank_frame, State.enterVBlank_ctl, ← signals, ← data]

/-- Settles O32 (R138, R139, R132). -/
theorem hBlankEndsLine : Obligations.HBlankEndsLine := by
  unfold Obligations.HBlankEndsLine
  intro s en mode
  have completes := drawOverruns_of_mode (s := s) (by simp [mode])
  have phase := State.phase_of_hBlank (s := s.quiet) en mode
  have renderer : SameRenderer s s.quiet.phase := by rw [phase]; exact s.quiet.nextDot.hblankDot_sameRenderer
  have copied := s.quiet.nextDot.vdmaHblankCopy_copied
  have out : s.quiet.nextDot.vdmaHblankCopy.out = Output.none := s.quiet.nextDot.vdmaHblankCopy_out
  refine ⟨fun early => ?_, ?_⟩
  · rw [State.hblankDot_of_notLast (s := s.quiet.nextDot) early] at phase
    exact completes_tick completes rfl fun t tick =>
      ⟨tick.ctl.trans (by rw [phase, copied]; rfl), tick.sameRenderer renderer, tick.raised _ (by rw [phase, out]; rfl)⟩
  · rintro last line _ rfl
    rw [State.hblankDot_of_last (s := s.quiet.nextDot) last,
      State.endOfLine_of_not_143 (by rw [copied]; exact line),
      State.enterOamSearch_eq (s := s.quiet.nextDot.vdmaHblankCopy.nextLine) out] at phase
    refine completes_tick completes rfl fun t tick =>
      ⟨tick.ctl.trans ?_, tick.sameRenderer renderer, tick.raised _ ?_⟩
    · rw [phase]
      simp only [State.nextLine, State.wyReached, State.coincides, copied, State.vdmaHblankCopy_reg, State.vdmaHblankCopy_bg]
      rfl
    · rw [phase]
      simp only [State.nextLine, State.coincides, State.lycIe, State.oamIe, copied, State.vdmaHblankCopy_reg, State.vdmaHblankCopy_cfg]
      rfl

end Sys2Proof.Machine
end

section
/-! PROOFS. V_BLANK, the signals of a frame's end (40_mode_controller.md R139 to R141) and the dots of the DMA engines
(44_oam_dma.md, 45_vram_dma.md R242 to R244). -/

namespace Sys2Proof.Machine

/-! ### V_BLANK -/

/-- A shown frame is announced where V_BLANK is entered, and nowhere else (R140). -/
def ShowsFrame (s t : State) : Prop := t.out.signals.frameReady = true → s.ctl.mode ≠ .vBlank ∧ t.ctl.mode = .vBlank

theorem ShowsFrame.of_noFrame {s t : State} (h : t.out.signals.frameReady = false) : ShowsFrame s t :=
  fun ready => absurd ready (by rw [h]; exact Bool.false_ne_true)

theorem ShowsFrame.of_sameSignals {s u t : State} (quiet : u.out = Output.none) (h : SameFrameSignals u t) : ShowsFrame s t :=
  .of_noFrame (by rw [h.2, quiet]; rfl)

theorem State.vblankDot_frameSignals (s : State) : SameFrameSignals s s.vblankDot := by
  unfold State.vblankDot
  split_ifs
  · exact s.nextFrame.enterOamSearch_frameSignals
  · exact ⟨rfl, rfl⟩
  · exact ⟨rfl, rfl⟩

theorem State.drawDot_frameSignals (s : State) : SameFrameSignals s s.drawDot := by
  by_cases hlx : s.lx = 160
  · rw [show s.drawDot = s.endDraw from if_pos hlx]
    exact State.enterHBlank_frameSignals { s with ctl := { s.ctl with drawLen := s.ctl.modeDot, hblankLen := 376 - s.ctl.modeDot } }
  · rw [SameFrameSignals, State.drawDot_out_of_pixelsLeft hlx]; exact ⟨rfl, rfl⟩

/-- The last dot of a line announces a frame on line 143 alone (R139, R140). -/
theorem State.hblankDot_showsFrame {r s : State} (quiet : s.out = Output.none) (mode : r.ctl.mode = .hBlank) :
    ShowsFrame r s.hblankDot := by
  have out : s.vdmaHblankCopy.out = Output.none := s.vdmaHblankCopy_out.trans quiet
  by_cases last : s.ctl.modeDot = s.ctl.hblankLen
  · rw [State.hblankDot_of_last last]
    by_cases line : s.vdmaHblankCopy.ctl.ly = 143#8
    · rw [State.endOfLine_of_143 line]
      exact fun _ => ⟨by simp [mode], by rw [State.enterVBlank_ctl]⟩
    · rw [State.endOfLine_of_not_143 line]
      exact .of_sameSignals (u := s.vdmaHblankCopy.nextLine) out s.vdmaHblankCopy.nextLine.enterOamSearch_frameSignals
  · rw [State.hblankDot_of_notLast last]
    exact .of_noFrame (by rw [out]; rfl)

theorem State.phase_showsFrame {s : State} (quiet : s.out = Output.none) : ShowsFrame s s.phase := by
  cases en : s.lcdEn with
  | false => rw [State.phase_of_off en]; exact .of_noFrame (by rw [quiet]; rfl)
  | true =>
    cases mode : s.ctl.mode with
    | oamSearch =>
      rw [State.phase_of_oamSearch en mode]
      exact .of_noFrame (by rw [State.oamSearchDot_out]; exact congrArg (·.signals.frameReady) quiet)
    | draw => rw [State.phase_of_draw en mode]; exact .of_sameSignals (u := s.nextDot) quiet s.nextDot.drawDot_frameSignals
    | hBlank => rw [State.phase_of_hBlank en mode]; exact State.hblankDot_showsFrame (s := s.nextDot) quiet mode
    | vBlank => rw [State.phase_of_vBlank en mode]; exact .of_sameSignals (u := s.nextDot) quiet s.nextDot.vblankDot_frameSignals

theorem State.writeLcdc_frameReady {s : State} (d : Byte) (quiet : s.out = Output.none) :
    (s.writeLcdc d).out.signals.frameReady = false := by
  have write := s.writeLcdc_cases d
  generalize s.writeLcdc d = t at write ⊢
  cases write with
  | same _ => exact congrArg (·.signals.frameReady) quiet
  | off _ _ => rw [State.lcdDisable_out]; exact congrArg (·.signals.frameReady) quiet
  | on _ _ => rw [(State.enterOamSearch_frameSignals _).2]; exact congrArg (·.signals.frameReady) quiet

theorem exec_showsFrame {i : Instr} {s t : State} (h : exec i s = .next t) : ShowsFrame s t := by
  cases exec_cases h with
  | tick _ =>
    intro ready
    have phase := State.phase_showsFrame (s := s.quiet) rfl (by rwa [State.countSignals_out, State.dot_out] at ready)
    exact ⟨phase.1, by rw [State.countSignals_ctl, State.dot_ctl]; exact phase.2⟩
  | lcdc d => exact .of_noFrame (State.writeLcdc_frameReady (s := s.quiet) d rfl)
  | vramDma d _ => exact .of_noFrame (by rw [State.vdmaWrite_out]; rfl)
  | read _ _ | oamDma _ | write _ _ _ _ _ => exact .of_noFrame rfl

/-- Settles O33 (R139, R140). -/
theorem vBlankEntryRaisesSignals : Obligations.VBlankEntryRaisesSignals := by
  unfold Obligations.VBlankEntryRaisesSignals
  refine ⟨fun s en mode last line => ?_, fun i s t h => exec_showsFrame h⟩
  have completes := drawOverruns_of_mode (s := s) (by simp [mode])
  have phase := State.phase_of_hBlank (s := s.quiet) en mode
  have renderer : SameRenderer s s.quiet.phase := by rw [phase]; exact s.quiet.nextDot.hblankDot_sameRenderer
  have copied := s.quiet.nextDot.vdmaHblankCopy_copied
  have out : s.quiet.nextDot.vdmaHblankCopy.out = Output.none := s.quiet.nextDot.vdmaHblankCopy_out
  rw [State.hblankDot_of_last (s := s.quiet.nextDot) last, State.endOfLine_of_143 (by rw [copied]; exact line),
    State.enterVBlank_eq (s := s.quiet.nextDot.vdmaHblankCopy.nextLine) out] at phase
  refine completes_tick completes rfl fun t tick => ?_
  have raised : Raised s t { vblankIrq := true, statIrq := s.reg.statIe.getLsbD 1, frameReady := true } := by
    refine tick.raised _ ?_
    rw [phase]
    simp only [State.nextLine, State.vblankIe, State.vdmaHblankCopy_reg]
    rfl
  refine ⟨tick.ctl.trans ?_, tick.sameRenderer renderer, raised, by rw [raised.2]; rfl⟩
  rw [phase]
  simp only [State.nextLine, copied, State.vdmaHblankCopy_bg]
  simp only [State.nextDot, State.quiet, line]
  rfl

section
variable {s : State}

theorem State.vblankDot_of_last (h : s.ctl.modeDot = 4560) : s.vblankDot = s.nextFrame.enterOamSearch := if_pos h

theorem State.vblankDot_of_notLast (h : s.ctl.modeDot ≠ 4560) : s.vblankDot =
    { s with ctl := { s.ctl with ly := if s.ctl.modeDot % 456 = 0 then s.ctl.ly + 1#8 else s.ctl.ly } } := by
  unfold State.vblankDot
  rw [if_neg h]
  split_ifs <;> rfl

end

/-- LY stays in 144 to 153 where every 456th dot of V_BLANK but the last increments it (R141). -/
theorem vblankLine_bounds {dot : Nat} {ly : Byte} (dots : dot < 4560) (line : ly.toNat = 144 + dot / 456) (early : dot + 1 ≠ 4560) :
    144 ≤ (if (dot + 1) % 456 = 0 then ly + 1#8 else ly).toNat ∧ (if (dot + 1) % 456 = 0 then ly + 1#8 else ly).toNat ≤ 153 := by
  split_ifs with next
  · rw [BitVec.toNat_add]; simp; omega
  · omega

/-- Settles O34 (R141). -/
theorem vBlankDots : Obligations.VBlankDots := by
  unfold Obligations.VBlankDots
  intro s en mode
  have completes := drawOverruns_of_mode (s := s) (by simp [mode])
  have phase := State.phase_of_vBlank (s := s.quiet) en mode
  refine ⟨fun last => ?_, fun early => ?_⟩
  · rw [State.vblankDot_of_last (s := s.quiet.nextDot) last,
      State.enterOamSearch_eq (s := s.quiet.nextDot.nextFrame) rfl] at phase
    have coin : decide (0#8 = s.reg.lyc) = decide (s.reg.lyc = 0#8) := decide_eq_decide.2 eq_comm
    have line : decide (s.reg.wy.toNat ≤ 0) = decide (s.reg.wy = 0#8) :=
      decide_eq_decide.2 (by rw [← BitVec.toNat_inj]; exact Nat.le_zero)
    refine completes_tick completes phase fun t tick =>
      ⟨tick.ctl.trans ?_, tick.sameRenderer ⟨rfl, rfl, rfl, rfl⟩, tick.raised _ ?_⟩
    · rw [← coin, ← line]; rfl
    · rw [← coin]; rfl
  · rw [State.vblankDot_of_notLast (s := s.quiet.nextDot) early] at phase
    refine completes_tick completes phase fun t tick =>
      ⟨tick.ctl, tick.sameRenderer ⟨rfl, rfl, rfl, rfl⟩, tick.raised _ rfl, fun inv => ?_⟩
    obtain ⟨dots, line⟩ := (State.lineInv_of_vBlank mode en).1 inv
    rw [tick.ctl]
    exact vblankLine_bounds dots line early

end Sys2Proof.Machine
end

section
/-! PROOFS. What a dot does to the memories and to the DMA engines (44_oam_dma.md, 45_vram_dma.md R242 to R246). -/

namespace Sys2Proof.Machine

/-! ### The controller's phase: the block of H_BLANK, the pixel of DRAW -/

theorem Completes.of_next {i : Instr} {s t : State} {P : State → Prop} (h : Completes i s P) (next : exec i s = .next t) : P t := by
  obtain ⟨u, hu, hP⟩ := h
  rw [next] at hu
  injection hu with hu
  exact hu ▸ hP

theorem drawOverruns_of_not {s : State} (h : ¬(s.lcdEn = true ∧ s.ctl.mode = .draw ∧ 375 ≤ s.ctl.modeDot)) :
    s.drawOverruns = false := by
  rw [← Bool.not_eq_true, drawOverruns_iff]; exact h

/-- This dot copies a block: it is one of an H_BLANK that has not copied yet (R244). -/
def State.blockDue (s : State) : Prop :=
  s.lcdEn = true ∧ s.ctl.mode = .hBlank ∧ s.vdma.mode = .hblank ∧ s.ctl.hblankCopied = false

theorem State.hblankCopyDue_iff (s : State) : s.hblankCopyDue = true ↔ s.vdma.mode = .hblank ∧ s.ctl.hblankCopied = false := by
  simp [State.hblankCopyDue]

theorem State.vdmaHblankCopy_of_due {s : State} (mode : s.vdma.mode = .hblank) (copied : s.ctl.hblankCopied = false) :
    s.vdmaHblankCopy = s.hblankCopy :=
  if_pos (s.hblankCopyDue_iff.2 ⟨mode, copied⟩)

theorem State.hblankCopy_mem (s : State) : s.hblankCopy.mem = (s.vdmaBytes 16).mem := by
  unfold State.hblankCopy
  dsimp only
  split_ifs <;> exact s.copyBlock_mem

theorem State.hblankCopy_vdma (s : State) : s.hblankCopy.vdma = { s.vdma with
    src := s.vdma.src + 16#16
    dst := wrapVram (s.vdma.dst + 16#16)
    blocks := s.vdma.blocks - 1
    mode := if s.vdma.blocks ≤ 1 then .idle else s.vdma.mode
    len := if s.vdma.blocks ≤ 1 then 0x7F#7 else s.vdma.len - 1#7 } := by
  unfold State.hblankCopy
  simp only [State.copyBlock_vdma]
  by_cases last : s.vdma.blocks ≤ 1
  · have none : s.vdma.blocks - 1 = 0 := by omega
    simp only [if_pos last, none]; rfl
  · have some : ¬s.vdma.blocks - 1 = 0 := by omega
    simp only [if_neg last, if_neg some]

theorem State.phase_of_blockDue {s : State} (due : s.blockDue) :
    s.phase.mem = (s.nextDot.vdmaBytes 16).mem ∧ s.phase.vdma = s.nextDot.hblankCopy.vdma := by
  obtain ⟨en, mode, engine, copied⟩ := due
  rw [State.phase_of_hBlank en mode, State.hblankDot_mem, State.hblankDot_vdma,
    State.vdmaHblankCopy_of_due (s := s.nextDot) engine copied]
  exact ⟨s.nextDot.hblankCopy_mem, rfl⟩

theorem State.phase_of_not_blockDue {s : State} (h : ¬s.blockDue) :
    (∀ p, s.phase.mem.cells p = s.mem.cells p) ∧ s.phase.vdma = s.vdma := by
  cases en : s.lcdEn with
  | false => rw [State.phase_of_off en]; exact ⟨fun _ => rfl, rfl⟩
  | true =>
    cases mode : s.ctl.mode with
    | oamSearch =>
      rw [State.phase_of_oamSearch en mode]
      exact ⟨fun p => by rw [State.oamSearchDot_mem]; rfl, State.oamSearchDot_vdma _⟩
    | draw => rw [State.phase_of_draw en mode]; exact ⟨State.drawDot_cells _, State.drawDot_vdma _⟩
    | hBlank =>
      have still : s.nextDot.vdmaHblankCopy = s.nextDot := by
        refine if_neg fun due => h ⟨en, mode, ?_⟩
        exact s.nextDot.hblankCopyDue_iff.1 due
      rw [State.phase_of_hBlank en mode, State.hblankDot_mem, State.hblankDot_vdma, still]
      exact ⟨fun _ => rfl, rfl⟩
    | vBlank =>
      rw [State.phase_of_vBlank en mode]
      exact ⟨fun p => by rw [State.vblankDot_mem]; rfl, State.vblankDot_vdma _⟩

theorem State.peek_of_cells {s t : State} {p : Space} (h : t.mem.cells p = s.mem.cells p) (a : Nat) : t.peek p a = s.peek p a := by
  unfold State.peek; rw [h]

/-- The controller stores no byte but those of a due block (R44, R244). -/
theorem State.phase_peek {s : State} {p : Space} {a : Nat}
    (h : s.blockDue → ¬(p = vramSpace s.reg.vbk ∧ ∃ j < 16, a = vdmaCell s.vdma.dst.toNat j)) : s.phase.peek p a = s.peek p a := by
  by_cases due : s.blockDue
  · rw [State.peek_congr _ _ (State.phase_of_blockDue due).1, State.vdmaBytes_peek_other s.nextDot 16 p a (h due)]
    rfl
  · exact State.peek_of_cells ((State.phase_of_not_blockDue due).1 p) a

theorem State.fbCell_of_fb {s t : State} (h : t.mem.fb = s.mem.fb) (y x : Nat) : t.fbCell y x = s.fbCell y x := by
  unfold State.fbCell; rw [h]

/-- The Mixer writes the cell under the cursor alone (R210). -/
theorem State.mixStep_fbCell {s : State} {y x : Nat} (h : fbKey y x ≠ fbKey s.ctl.ly.toNat s.lx) :
    s.mixStep.fbCell y x = s.fbCell y x := by
  have mix := s.mixStep_cases
  generalize s.mixStep = t at mix ⊢
  cases mix with
  | starved _ => rfl
  | pops b rest _ _ =>
    exact (s.fbCell_fbWrite s.ctl.ly.toNat s.lx y x _).trans (if_neg h)

theorem State.drawDot_fbCell {s : State} {y x : Nat} (h : fbKey y x ≠ fbKey s.ctl.ly.toNat s.lx) :
    s.drawDot.fbCell y x = s.fbCell y x := by
  obtain same | ⟨u, -, mem, ly, lx, mixed⟩ := s.drawDot_mem_cases
  · exact State.fbCell_of_fb (by rw [same]) y x
  · have cell : u.mixStep.fbCell y x = u.fbCell y x := State.mixStep_fbCell (by rwa [ly, lx])
    exact (State.fbCell_of_fb (congrArg Memories.fb mixed) y x).trans
      (cell.trans (State.fbCell_of_fb (congrArg Memories.fb mem) y x))

theorem State.phase_fb_of_notDraw {s : State} (h : ¬(s.lcdEn = true ∧ s.ctl.mode = .draw)) : s.phase.mem.fb = s.mem.fb := by
  cases en : s.lcdEn with
  | false => rw [State.phase_of_off en]
  | true =>
    cases mode : s.ctl.mode with
    | oamSearch => rw [State.phase_of_oamSearch en mode, State.oamSearchDot_mem]; rfl
    | draw => exact absurd ⟨en, mode⟩ h
    | hBlank => rw [State.phase_of_hBlank en mode, State.hblankDot_fb]; rfl
    | vBlank => rw [State.phase_of_vBlank en mode, State.vblankDot_mem]; rfl

theorem State.phase_fbCell {s : State} {y x : Nat}
    (h : ¬(s.lcdEn = true ∧ s.ctl.mode = .draw ∧ fbKey y x = fbKey s.ctl.ly.toNat s.lx)) : s.phase.fbCell y x = s.fbCell y x := by
  by_cases drawing : s.lcdEn = true ∧ s.ctl.mode = .draw
  · obtain ⟨en, mode⟩ := drawing
    rw [State.phase_of_draw en mode]
    exact State.drawDot_fbCell (s := s.nextDot) fun key => h ⟨en, mode, key⟩
  · exact State.fbCell_of_fb (State.phase_fb_of_notDraw drawing) y x

/-! ### The dots of the DMA engines -/

theorem State.dot_peek {s : State} {p : Space} {a : Nat} (h : p ≠ .oam) : s.dot.peek p a = s.phase.peek p a :=
  State.peek_of_cells (by rw [State.dot_eq, State.vdmaTick_mem, State.oamDmaTick_cells _ h]) a

/-- The controller on an H_BLANK dot of an hblank transfer (R138 to R140, R244). -/
theorem tick_of_hblankTransfer {s t : State} (next : exec .tick s = .next t) (en : s.lcdEn = true) (mode : s.ctl.mode = .hBlank)
    (engine : s.vdma.mode = .hblank) : SameRenderer s t ∧ t.ctl.hblankCopied = true ∧
      (s.ctl.modeDot + 1 ≠ s.ctl.hblankLen →
        t.ctl = { s.ctl with modeDot := s.ctl.modeDot + 1, hblankCopied := true } ∧ Raised s t noSignals) ∧
      (s.ctl.modeDot + 1 = s.ctl.hblankLen → t.ctl.modeDot = 0 ∧ t.ctl.ly = s.ctl.ly + 1#8 ∧
        t.ctl.mode = if s.ctl.ly = 143#8 then .vBlank else .oamSearch) := by
  have latched : (s.ctl.hblankCopied || decide (s.vdma.mode = .hblank)) = true := by simp [engine]
  by_cases last : s.ctl.modeDot + 1 = s.ctl.hblankLen
  · by_cases line : s.ctl.ly = 143#8
    · obtain ⟨ctl, renderer, -⟩ := (vBlankEntryRaisesSignals.1 s en mode last line).of_next next
      rw [ctl]
      exact ⟨renderer, latched, fun h => absurd last h, fun _ => ⟨rfl, by rw [line]; rfl, (if_pos line).symm⟩⟩
    · obtain ⟨ctl, renderer, -⟩ := ((hBlankEndsLine s en mode).2 last line _ rfl).of_next next
      rw [ctl]
      exact ⟨renderer, latched, fun h => absurd last h, fun _ => ⟨rfl, rfl, (if_neg line).symm⟩⟩
  · obtain ⟨ctl, renderer, raised⟩ := ((hBlankEndsLine s en mode).1 last).of_next next
    rw [latched] at ctl
    exact ⟨renderer, by rw [ctl], fun _ => ⟨ctl, raised⟩, fun h => absurd h last⟩

theorem vramSpace_ne_oam (b : BitVec 1) : vramSpace b ≠ .oam := by unfold vramSpace; split_ifs <;> nofun

/-- What a due block leaves of the VRAM DMA Engine and at its destination (R244, R246). -/
theorem State.dot_of_blockDue {s : State} (due : s.blockDue) :
    s.dot.vdma = s.nextDot.hblankCopy.vdma ∧ CopiedBytes s s.dot s.vdma.src.toNat s.vdma.dst.toNat 16 := by
  have ⟨_, _, engine, _⟩ := due
  have ⟨mem, vdma⟩ := State.phase_of_blockDue due
  constructor
  · have notGeneral : s.phase.oamDmaTick.vdma.mode ≠ .general := by
      rw [State.oamDmaTick_vdma, vdma, State.hblankCopy_vdma]
      show (if s.vdma.blocks ≤ 1 then VdmaMode.idle else s.vdma.mode) ≠ .general
      split_ifs <;> simp [engine]
    rw [State.dot_eq, State.vdmaTick_of_notGeneral notGeneral, State.oamDmaTick_vdma, vdma]
  · refine (s.nextDot.vdmaBytes_copied 16 (by omega)).congr rfl rfl (fun _ => rfl) (fun _ => rfl) fun j _ => ?_
    rw [← State.peek_congr _ _ mem]
    exact State.dot_peek (vramSpace_ne_oam _)

/-- Settles O31 (R244, R246). -/
theorem hblankTransferCopiesOneBlock : Obligations.HblankTransferCopiesOneBlock := by
  unfold Obligations.HblankTransferCopiesOneBlock
  intro s en mode engine copied
  have next : exec .tick s = .next s.quiet.dot.countSignals :=
    (exec_tick_next s _).2 ⟨drawOverruns_of_mode (by simp [mode]), rfl⟩
  obtain ⟨renderer, period, early, last⟩ := tick_of_hblankTransfer next en mode engine
  obtain ⟨vdma, bytes⟩ := State.dot_of_blockDue (s := s.quiet) ⟨en, mode, engine, copied⟩
  rw [State.hblankCopy_vdma] at vdma
  refine ⟨_, next, period, early, last, ?_⟩
  dsimp only [State.countSignals_vdma]
  rw [vdma]
  refine ⟨rfl, ?_, rfl, rfl, rfl, fun h => ⟨if_pos h, if_pos h⟩, fun h => ?_, bytes, renderer⟩
  · show (wrapVram (s.vdma.dst + 16#16)).toNat = _
    rw [wrapVram_toNat, BitVec.toNat_add, BitVec.toNat_ofNat]; omega
  · have many : ¬s.vdma.blocks ≤ 1 := by omega
    exact ⟨(if_neg many).trans engine, if_neg many⟩

/-- A dot of a general transfer (R242). -/
theorem State.vdmaTick_vdma_of_general {s : State} (mode : s.vdma.mode = .general) {n : Nat}
    (count : n = s.vdma.dots + if s.cfg.doubleSpeed then 1 else 2) :
    s.vdmaTick.vdma = if s.vdma.threshold ≤ n then { s.vdma with dots := n, mode := .idle, blocks := 0, len := 0x7F#7 }
      else { s.vdma with dots := n } := by
  subst count
  unfold State.vdmaTick
  rw [if_pos mode]
  dsimp only
  split_ifs <;> rfl

/-- Settles O50 (R242, R243). -/
theorem generalTransferCountsDots : Obligations.GeneralTransferCountsDots := by
  unfold Obligations.GeneralTransferCountsDots
  intro s n mode completes count
  have notDue : ¬s.quiet.blockDue := fun ⟨_, _, engine, _⟩ => by
    rw [show s.quiet.vdma.mode = .general from mode] at engine; cases engine
  have phase : s.quiet.phase.oamDmaTick.vdma = s.vdma :=
    (State.oamDmaTick_vdma _).trans (State.phase_of_not_blockDue notDue).2
  have cfg : s.quiet.phase.oamDmaTick.cfg = s.cfg := by
    have := s.quiet.dot_cfg
    rwa [State.dot_eq, State.vdmaTick_cfg] at this
  have dot := State.vdmaTick_vdma_of_general (s := s.quiet.phase.oamDmaTick) (n := n) (by rw [phase, mode]) (by rw [phase, cfg, count])
  rw [phase, ← State.dot_eq, ← State.countSignals_vdma] at dot
  refine ⟨_, (exec_tick_next s _).2 ⟨drawOverruns_of_not completes, rfl⟩, fun h => ?_, fun h => ?_⟩
  · rw [dot, if_neg (by omega)]
  · rw [if_pos h] at dot
    generalize s.quiet.dot.countSignals = t at dot ⊢
    have byte : t.hdma5Byte = 0xFF#8 := by
      rw [State.hdma5Byte, dot]
      unfold State.cgbRead
      split_ifs
      · dsimp only; decide
      · rfl
    exact ⟨dot, congrArg (fun r => Host.Outcome.next (t.answer r)) byte⟩

end Sys2Proof.Machine
end

section
/-! PROOFS. The frame of a `TICK` (R44, 44_oam_dma.md), the OAM DMA copy (R231, R232) and what no event changes (R4, R33, R44,
R45). -/

namespace Sys2Proof.Machine

/-! ### The copy of an OAM DMA -/

/-- The first `n` bytes of an OAM DMA copy, ascending (R231). -/
def State.oamBytes (s : State) (n : Nat) : State := (List.range n).foldl State.oamDmaByte s

theorem State.oamDmaCopy_eq (s : State) : s.oamDmaCopy = s.oamBytes 0xA0 := rfl

theorem State.oamBytes_succ (s : State) (n : Nat) : s.oamBytes (n + 1) = (s.oamBytes n).oamDmaByte n := by
  simp [State.oamBytes, List.range_succ]

theorem State.oamBytes_frame (s : State) (n : Nat) : s.oamBytes n = { s with mem := (s.oamBytes n).mem } := by
  induction n with
  | zero => rfl
  | succ n ih => rw [State.oamBytes_succ, oamDmaByte_frame, ih]

theorem State.oamBytes_peek_succ (s : State) (n : Nat) (k : Nat) : (s.oamBytes (n + 1)).peek .oam k =
    if k = n then (s.oamBytes n).memRead (s.odma.src + BitVec.ofNat 16 n) else (s.oamBytes n).peek .oam k := by
  have odma : (s.oamBytes n).odma = s.odma := by rw [State.oamBytes_frame]
  rw [State.oamBytes_succ, State.oamDmaByte, State.oamWrite, State.peek_poke, odma]
  simp

theorem isOam_of_busTarget {a : Addr} (h : busTarget a = .oam) : a.isOam = true := by
  refine busTarget_rows (P := fun a p => p = .oam → a.isOam = true) ?_ ?_ ?_ ?_ a h
  · intro a h
    fin_cases h <;> rintro ⟨⟩
  · intro a _ h; cases h
  · intro a ha _; exact ha
  · intro a _ h; cases h

/-- The block's own read outside of oam, after a store to oam (R72, R78). -/
theorem State.memRead_oamWrite (s : State) (c : Nat) (v : Byte) {a : Addr} (h : busTarget a ≠ .oam) :
    (s.oamWrite c v).memRead a = s.memRead a := by
  have other : ∀ q b, q ≠ .oam → (s.oamWrite c v).peek q b = s.peek q b := fun q b hq =>
    (State.peek_poke s .oam q c b v).trans (if_neg fun h => hq h.1)
  simp only [State.memRead, State.busRead, Bool.not_true, Bool.false_and, Bool.false_eq_true, if_false]
  cases hb : busTarget a with
  | oam => exact absurd hb h
  | vram => simp only [State.dispatchRead, hb]; exact other _ _ (vramSpace_ne_oam _)
  | mem => simp only [State.dispatchRead, hb]; exact other _ _ nofun
  | bcpd => simp only [State.dispatchRead, hb]; exact congrArg s.cgbRead (other .bgpal _ nofun)
  | ocpd => simp only [State.dispatchRead, hb]; exact congrArg s.cgbRead (other .objpal _ nofun)
  | lcdc | stat | scy | scx | ly | lyc | dma | bgp | obp0 | obp1 | wy | wx | vbk | hdma1 | hdma2 | hdma3 | hdma4 | hdma5 | bcps
  | ocps => simp only [State.dispatchRead, hb] <;> rfl

/-- Where a copy reads the bytes it writes, nothing changes (R232). -/
theorem State.oamBytes_of_oam {s : State} (source : s.odma.src.toNat = 0xFE00) {n : Nat} (hn : n ≤ 0xA0) (k : Nat) :
    (s.oamBytes n).peek .oam k = s.peek .oam k := by
  induction n with
  | zero => rfl
  | succ n ih =>
    have ih := ih (by omega)
    have addr : (s.odma.src + BitVec.ofNat 16 n).toNat = 0xFE00 + n := by
      rw [BitVec.toNat_add, BitVec.toNat_ofNat, source]; omega
    have target : busTarget (s.odma.src + BitVec.ofNat 16 n) = .oam :=
      busTarget_oam _ (by simp only [Addr.isOam, decide_eq_true_eq]; rw [addr]; omega)
    rw [State.oamBytes_peek_succ]
    split_ifs with same
    · rw [((s.oamBytes n).memRead_memory _).2.1 target, addr, Nat.add_sub_cancel_left, ← ih, same]
    · exact ih

theorem State.oamBytes_memRead (s : State) (n : Nat) {a : Addr} (h : busTarget a ≠ .oam) : (s.oamBytes n).memRead a = s.memRead a := by
  induction n with
  | zero => rfl
  | succ n ih => rw [State.oamBytes_succ, State.oamDmaByte, State.memRead_oamWrite _ _ _ h, ih]

/-- A copy from outside of oam (R231). -/
theorem State.oamBytes_of_other {s : State} (source : ∀ k < 0xA0, busTarget (s.odma.src + BitVec.ofNat 16 k) ≠ .oam) {n : Nat}
    (hn : n ≤ 0xA0) {k : Nat} (hk : k < n) : (s.oamBytes n).peek .oam k = s.memRead (s.odma.src + BitVec.ofNat 16 k) := by
  induction n with
  | zero => omega
  | succ n ih =>
    rw [State.oamBytes_peek_succ]
    split_ifs with same
    · rw [same, State.oamBytes_memRead _ _ (source n (by omega))]
    · exact ih (by omega) (by omega)

/-- A page other than oam's holds no address of oam (R232). -/
theorem busTarget_ne_oam_of_page {src : Addr} (page : src.toNat % 256 = 0) (other : src.toNat ≠ 0xFE00) {k : Nat} (hk : k < 0xA0) :
    busTarget (src + BitVec.ofNat 16 k) ≠ .oam := by
  intro target
  have range := isOam_of_busTarget target
  have := src.isLt
  simp only [Addr.isOam, decide_eq_true_eq, BitVec.toNat_add, BitVec.toNat_ofNat] at range
  omega

section
variable {s : State} (active : s.odma.active = true)
include active

theorem State.oamDmaTick_of_counts (h : s.odma.dots + 1 ≠ 640) :
    s.oamDmaTick = { s with odma := { s.odma with dots := s.odma.dots + 1 } } := by
  unfold State.oamDmaTick
  rw [if_pos active]
  exact if_neg h

/-- The state a copy of an OAM DMA starts from: the engine has counted its last dot. -/
def State.oamCopyStart (s : State) : State := { s with odma := { s.odma with dots := s.odma.dots + 1 } }

theorem State.oamDmaTick_of_copies (h : s.odma.dots + 1 = 640) : s.oamDmaTick =
    { s.oamCopyStart.oamDmaCopy with odma := { s.odma with dots := s.odma.dots + 1, active := false } } := by
  have odma : s.oamCopyStart.oamDmaCopy.odma = s.oamCopyStart.odma := State.oamDmaCopy_odma _
  unfold State.oamDmaTick
  rw [if_pos active]
  refine (if_pos h).trans ?_
  show { s.oamCopyStart.oamDmaCopy with odma := { s.oamCopyStart.oamDmaCopy.odma with active := false } } = _
  rw [odma]
  rfl

theorem State.oamDmaTick_peek_of_copies (h : s.odma.dots + 1 = 640) (k : Nat) :
    s.oamDmaTick.peek .oam k = (s.oamCopyStart.oamBytes 0xA0).peek .oam k := by
  rw [← State.oamDmaCopy_eq]
  exact State.peek_congr _ _ (by rw [State.oamDmaTick_of_copies active h]) _ _

theorem State.oamDmaTick_odma : s.oamDmaTick.odma =
    { s.odma with dots := s.odma.dots + 1, active := decide (s.odma.dots + 1 ≠ 640) } := by
  by_cases last : s.odma.dots + 1 = 640
  · rw [State.oamDmaTick_of_copies active last]; simp [last]
  · rw [State.oamDmaTick_of_counts active last]; simp [last, active]

end

theorem State.phase_odma (s : State) : s.phase.odma = s.odma := by
  unfold State.phase; split_ifs
  · exact s.controllerStep_odma
  · rfl

theorem State.phase_oamRead (s : State) (k : Nat) : s.phase.peek .oam k = s.peek .oam k :=
  State.phase_peek fun _ h => vramSpace_ne_oam _ h.1.symm

theorem State.dot_oamRead (s : State) (k : Nat) : s.dot.peek .oam k = s.phase.oamDmaTick.peek .oam k :=
  State.peek_congr _ _ (State.vdmaTick_mem _) _ _

/-- Settles O49 (R231, R232). -/
theorem oamDmaCopiesOnDot640 : Obligations.OamDmaCopiesOnDot640 := by
  unfold Obligations.OamDmaCopiesOnDot640
  rintro s u active completes hu
  have phase : s.quiet.phase = u := hu.symm
  have odma : u.odma = s.odma := phase ▸ s.quiet.phase_odma
  have oam : ∀ k, u.peek .oam k = s.peek .oam k := phase ▸ s.quiet.phase_oamRead
  have active : u.odma.active = true := by rw [odma, active]
  have engine : s.quiet.dot.odma = u.oamDmaTick.odma := by rw [State.dot_eq, State.vdmaTick_odma, phase]
  have read : ∀ k, s.quiet.dot.oamRead k = u.oamDmaTick.oamRead k := phase ▸ s.quiet.dot_oamRead
  refine ⟨_, (exec_tick_next s _).2 ⟨drawOverruns_of_not completes, rfl⟩, ?_⟩
  rw [State.oamDmaTick_odma active, odma] at engine
  simp only [State.countSignals_odma, engine]
  refine ⟨trivial, trivial, trivial, fun counts a => ?_, fun last page k hk => ?_⟩
  · exact (read a).trans (by rw [State.oamDmaTick_of_counts active (by rwa [odma])]; exact oam a)
  · refine (read k).trans ((State.oamDmaTick_peek_of_copies active (by rwa [odma]) k).trans ?_)
    have source : u.oamCopyStart.odma.src = s.odma.src := congrArg (·.src) odma
    split_ifs with isOam
    · rw [State.oamBytes_of_oam (by rw [source, isOam]) le_rfl]
      exact oam k
    · rw [State.oamBytes_of_other (fun j hj => by rw [source]; exact busTarget_ne_oam_of_page page isOam hj) le_rfl hk, source]
      rfl

/-! ### The frame of a `TICK` -/

theorem State.enterOamSearch_data (s : State) : s.enterOamSearch.out.data = s.out.data := by
  unfold State.enterOamSearch; dsimp only; rw [State.raiseIf_data, State.raiseIf_data]

theorem State.drawDot_data (s : State) : s.drawDot.out.data = s.out.data := by
  by_cases hlx : s.lx = 160
  · rw [show s.drawDot = s.endDraw from if_pos hlx]
    unfold State.endDraw State.enterHBlank
    rw [State.raiseIf_data]
  · rw [State.drawDot_out_of_pixelsLeft hlx]

theorem State.hblankDot_data (s : State) : s.hblankDot.out.data = s.out.data := by
  have out : s.vdmaHblankCopy.out = s.out := s.vdmaHblankCopy_out
  by_cases last : s.ctl.modeDot = s.ctl.hblankLen
  · rw [State.hblankDot_of_last last]
    by_cases line : s.vdmaHblankCopy.ctl.ly = 143#8
    · rw [State.endOfLine_of_143 line]
      unfold State.enterVBlank
      dsimp only
      rw [State.raiseIf_data]
      show s.vdmaHblankCopy.out.data = _
      rw [out]
    · rw [State.endOfLine_of_not_143 line, State.enterOamSearch_data]; exact congrArg Output.data out
  · rw [State.hblankDot_of_notLast last, out]

theorem State.vblankDot_data (s : State) : s.vblankDot.out.data = s.out.data := by
  by_cases last : s.ctl.modeDot = 4560
  · rw [State.vblankDot_of_last last, State.enterOamSearch_data]; rfl
  · rw [State.vblankDot_of_notLast last]

theorem State.phase_data (s : State) : s.phase.out.data = s.out.data := by
  cases en : s.lcdEn with
  | false => rw [State.phase_of_off en]
  | true =>
    cases mode : s.ctl.mode with
    | oamSearch => rw [State.phase_of_oamSearch en mode, State.oamSearchDot_out]; rfl
    | draw => rw [State.phase_of_draw en mode, State.drawDot_data]; rfl
    | hBlank => rw [State.phase_of_hBlank en mode, State.hblankDot_data]; rfl
    | vBlank => rw [State.phase_of_vBlank en mode, State.vblankDot_data]; rfl

theorem State.oamBytes_peek_other (s : State) (n : Nat) {a : Nat} (h : n ≤ a) : (s.oamBytes n).peek .oam a = s.peek .oam a := by
  induction n with
  | zero => rfl
  | succ n ih => rw [State.oamBytes_peek_succ, if_neg (by omega), ih (by omega)]

theorem State.oamDmaTick_oam {s : State} {a : Nat} (h : ¬(s.odma.active = true ∧ s.odma.dots = 639 ∧ a < 0xA0)) :
    s.oamDmaTick.peek .oam a = s.peek .oam a := by
  cases active : s.odma.active with
  | false => rw [State.oamDmaTick_of_inactive active]
  | true =>
    by_cases last : s.odma.dots + 1 = 640
    · rw [State.oamDmaTick_peek_of_copies active last]
      exact s.oamCopyStart.oamBytes_peek_other 0xA0 (by by_contra inside; exact h ⟨active, by omega, by omega⟩)
    · rw [State.oamDmaTick_of_counts active last]; rfl

theorem State.dot_vdma_of_not_blockDue {s : State} (due : ¬s.blockDue) (mode : s.vdma.mode ≠ .general) : s.dot.vdma = s.vdma := by
  have phase : s.phase.oamDmaTick.vdma = s.vdma := (State.oamDmaTick_vdma _).trans (State.phase_of_not_blockDue due).2
  rw [State.dot_eq, State.vdmaTick_of_notGeneral (by rwa [phase]), phase]

/-- Settles O25 (R44, R231, R244). -/
theorem tickFrame : Obligations.TickFrame := by
  unfold Obligations.TickFrame
  intro s t h
  obtain ⟨-, rfl⟩ := (exec_tick_next s t).1 h
  refine ⟨State.dot_cfg _, State.dot_reg _, State.dot_events _, ?_, fun a => ?_, fun a dma => ?_, fun p a vram cell => ?_,
    fun y x cell => ?_, fun idle => ?_, fun idle => ?_, fun hblank notDue => ?_⟩
  · rw [State.countSignals_out, State.dot_out, State.phase_data]; rfl
  · have other : ∀ p, p ≠ .oam → p ≠ .vram0 → p ≠ .vram1 → s.quiet.dot.peek p a = s.peek p a := fun p oam vram0 vram1 =>
      (State.dot_peek oam).trans (State.phase_peek fun _ h => by
        unfold vramSpace at h; split_ifs at h
        · exact vram0 h.1
        · exact vram1 h.1)
    exact ⟨other .ext nofun nofun nofun, other .bgpal nofun nofun nofun, other .objpal nofun nofun nofun⟩
  · have engine := s.quiet.phase_odma
    exact (s.quiet.dot_oamRead a).trans ((State.oamDmaTick_oam (by rw [engine]; exact dma)).trans (s.quiet.phase_oamRead a))
  · refine (State.dot_peek ?_).trans (State.phase_peek fun due inside => ?_)
    · rcases vram with rfl | rfl <;> nofun
    · obtain ⟨en, mode, engine, copied⟩ := due
      exact cell ⟨en, mode, engine, copied, inside⟩
  · exact (State.fbCell_of_fb s.quiet.dot_fb y x).trans (State.phase_fbCell cell)
  · have engine := s.quiet.phase_odma
    rw [State.countSignals_odma, State.dot_eq, State.vdmaTick_odma, State.oamDmaTick_of_inactive (by rw [engine]; exact idle), engine]
    rfl
  · exact State.dot_vdma_of_not_blockDue (s := s.quiet)
      (fun ⟨_, _, engine, _⟩ => by rw [show s.quiet.vdma.mode = .idle from idle] at engine; cases engine)
      (by rw [show s.quiet.vdma.mode = .idle from idle]; nofun)
  · exact State.dot_vdma_of_not_blockDue (s := s.quiet) (fun ⟨en, mode, _, copied⟩ => notDue ⟨en, mode, copied⟩)
      (by rw [show s.quiet.vdma.mode = .hblank from hblank]; nofun)

/-! ### What no event changes -/

theorem State.writeLcdc_signals {s : State} {d : Byte} (quiet : s.out = Output.none)
    (raised : (s.writeLcdc d).out.signals ≠ noSignals) : s.lcdEn = false ∧ d.getLsbD 7 = true := by
  have write := s.writeLcdc_cases d
  generalize s.writeLcdc d = t at write raised
  cases write with
  | same _ => exact absurd (congrArg Output.signals quiet) raised
  | off _ _ => exact absurd (by rw [State.lcdDisable_out]; exact congrArg Output.signals quiet) raised
  | on before after => exact ⟨before, after⟩

theorem State.writeLcdc_vbk (s : State) (d : Byte) : (s.writeLcdc d).reg.vbk = s.reg.vbk := by
  have write := s.writeLcdc_cases d
  generalize s.writeLcdc d = t at write ⊢
  cases write with
  | same _ => rfl
  | off _ _ => rw [State.lcdDisable_reg]
  | on _ _ => rw [State.enterOamSearch_reg]

theorem State.writeLcdc_events (s : State) (d : Byte) : (s.writeLcdc d).events = s.events := by
  have write := s.writeLcdc_cases d
  generalize s.writeLcdc d = t at write ⊢
  cases write with
  | same _ => rfl
  | off _ _ => rw [State.lcdDisable_events]
  | on _ _ => rw [State.enterOamSearch_events]

theorem exec_signals {i : Instr} {s t : State} (h : exec i s = .next t) (raised : t.out.signals ≠ noSignals) :
    i = .tick ∨ ∃ d, i = .wrLcdc d ∧ s.lcdEn = false ∧ d.getLsbD 7 = true := by
  cases exec_cases h with
  | tick _ => exact .inl rfl
  | lcdc d => exact .inr ⟨d, rfl, State.writeLcdc_signals (s := s.quiet) rfl raised⟩
  | vramDma d _ => rw [State.vdmaWrite_out] at raised; exact absurd rfl raised
  | read _ _ | oamDma _ | write _ _ _ _ _ => exact absurd rfl raised

theorem exec_vbk {i : Instr} {s t : State} (h : exec i s = .next t) : t.reg.vbk = s.reg.vbk ∨ ∃ d, i = .wrVbk d := by
  cases exec_cases h with
  | tick _ => exact .inl (by rw [State.countSignals_reg, State.dot_reg]; rfl)
  | lcdc d => exact .inl (s.quiet.writeLcdc_vbk d)
  | vramDma d _ => exact .inl (by rw [State.vdmaWrite_reg]; rfl)
  | read _ _ | oamDma _ => exact .inl rfl
  | write _ _ _ regs _ => exact regs.vbk

theorem exec_fb {i : Instr} {s t : State} (h : exec i s = .next t) :
    t.mem.fb = s.mem.fb ∨ (i = .tick ∧ s.lcdEn = true ∧ s.ctl.mode = .draw) := by
  cases exec_cases h with
  | tick _ =>
    by_cases drawing : s.lcdEn = true ∧ s.ctl.mode = .draw
    · exact .inr ⟨rfl, drawing⟩
    · exact .inl (s.quiet.dot_fb.trans (State.phase_fb_of_notDraw drawing))
  | lcdc d => exact .inl (congrArg Memories.fb (s.quiet.writeLcdc_mem d))
  | vramDma d _ => exact .inl (s.quiet.vdmaWrite_fb d)
  | read _ _ | oamDma _ => exact .inl rfl
  | write _ _ _ _ mem =>
    cases mem with
    | none => exact .inl rfl
    | store p a v _ _ => exact .inl (Memories.store_fb _ _ _ _)

theorem exec_events {i : Instr} {s t : State} (h : exec i s = .next t) : t.events = s.events := by
  cases exec_cases h with
  | tick _ => rw [State.countSignals_events, State.dot_events]; rfl
  | lcdc d => rw [State.countSignals_events, State.writeLcdc_events]; rfl
  | vramDma d _ => rw [State.vdmaWrite_events]; rfl
  | read _ _ | oamDma _ | write _ _ _ _ _ => rfl

/-- Settles O51 (R4, R33, R44, R45). -/
theorem eventsKeepTheirBounds : Obligations.EventsKeepTheirBounds := by
  unfold Obligations.EventsKeepTheirBounds
  intro i s t h
  exact ⟨exec_cfg h, exec_events h, exec_signals h, (exec_vbk h).resolve_left, (exec_fb h).resolve_left⟩

end Sys2Proof.Machine
end

section
/-! PROOFS. The order inside a DRAW dot (40_mode_controller.md R135). The fetchers and the Mixer neither read the answer of the
event nor the framebuffer: they commute with replacing both (`withOuter`), so a dot may be computed without them. -/

namespace Sys2Proof.Machine

/-! ### The renderer reads neither the answer nor the framebuffer -/

/-- Another answer and another framebuffer. -/
def State.withOuter (s : State) (o : Output) (fb : Memory Color15) : State := { s with out := o, mem := { s.mem with fb := fb } }

/-- Stage 1 ends once five dots have passed and the queue is not empty (R189). -/
def State.stage1End (s : State) : State :=
  if 5 ≤ s.sp.s1Dots ∧ 0 < s.bg.queue.length then { s with sp := { s.sp with stage := .stage2 } } else s

theorem State.stage1Dot_eq (s : State) :
    s.stage1Dot = State.stage1End (if s.bg.queue.length = 0 then s.stage1Start.bgStep else s.stage1Start) := rfl

/-- A dot of stage 3 (R191). -/
theorem State.stage3Dot_eq (s : State) : s.stage3Dot = { s.penalty with
    sp := { s.sp with s3Dots := s.sp.s3Dots + 1, stage := if s.sp.s3Dots + 1 = 3 then .stage4 else s.sp.stage } } := by
  by_cases last : s.sp.s3Dots + 1 = 3
  · rw [if_pos last]; exact if_pos last
  · rw [if_neg last]; exact if_neg last

section
variable (s : State) (o : Output) (fb : Memory Color15)

@[simp] theorem State.withOuter_peek (p : Space) (a : Nat) : (s.withOuter o fb).peek p a = s.peek p a := by cases p <;> rfl

@[simp] theorem State.withOuter_vramRead (b : BitVec 1) (a : Nat) : (s.withOuter o fb).vramRead b a = s.vramRead b a :=
  s.withOuter_peek o fb _ a

theorem State.withOuter_windowEntryCheck : (s.withOuter o fb).windowEntryCheck = s.windowEntryCheck.withOuter o fb := by
  unfold State.windowEntryCheck State.enterWindow
  rw [show (s.withOuter o fb).entersWindow = s.entersWindow from rfl,
    show (s.withOuter o fb).windowEntryStalls = s.windowEntryStalls from rfl]
  dsimp only
  split_ifs <;> rfl

theorem State.withOuter_push : (s.withOuter o fb).push = s.push.withOuter o fb := by
  unfold State.push State.scrollDiscard
  dsimp only
  rw [show (s.withOuter o fb).bg = s.bg from rfl]
  split_ifs <;> rfl

theorem State.withOuter_tryPush : (s.withOuter o fb).tryPush = s.tryPush.withOuter o fb := by
  have push := State.withOuter_push { s with bg := { s.bg with stage := .push } } o fb
  unfold State.tryPush
  rw [show (s.withOuter o fb).bg = s.bg from rfl]
  split_ifs
  · exact congrArg (fun t : State => { t with bg := { t.bg with stage := .getTile, stageDot := 0 } }) push
  · rfl

theorem State.withOuter_getTile : (s.withOuter o fb).getTile = s.getTile.withOuter o fb := by
  have addr : (s.withOuter o fb).fetchMapAddr = s.fetchMapAddr := rfl
  unfold State.getTile
  rw [addr, State.withOuter_vramRead, State.withOuter_vramRead]
  rfl

theorem State.withOuter_getTileData : (s.withOuter o fb).getTileData = s.getTileData.withOuter o fb := by
  unfold State.getTileData
  simp only [State.withOuter_vramRead]
  rfl

theorem State.withOuter_bgStageDot : (s.withOuter o fb).bgStageDot = s.bgStageDot.withOuter o fb := by
  have tile := State.withOuter_getTile { s with bg := { s.bg with stageDot := s.bg.stageDot + 1 } } o fb
  have data := State.withOuter_getTileData { s with bg := { s.bg with stageDot := s.bg.stageDot + 1 } } o fb
  have sleep := State.withOuter_tryPush { s with bg := { s.bg with stage := .sleep, stageDot := 0 } } o fb
  have push := s.withOuter_tryPush o fb
  unfold State.bgStageDot
  dsimp only
  rw [show (s.withOuter o fb).bg = s.bg from rfl]
  cases s.bg.stage with
  | getTile =>
    dsimp only; split_ifs
    · exact congrArg (fun t : State => { t with bg := { t.bg with stage := .getTileDataLow, stageDot := 0 } }) tile
    · rfl
  | getTileDataLow =>
    dsimp only; split_ifs
    · exact congrArg (fun t : State => { t with bg := { t.bg with stage := .getTileDataHigh, stageDot := 0 } }) data
    · rfl
  | getTileDataHigh =>
    dsimp only; split_ifs
    · exact sleep
    · rfl
  | sleep | push => exact push

theorem State.withOuter_bgStep : (s.withOuter o fb).bgStep = s.bgStep.withOuter o fb := by
  unfold State.bgStep
  dsimp only
  rw [State.withOuter_windowEntryCheck, State.withOuter_bgStageDot]
  rw [show (s.windowEntryCheck.withOuter o fb).bg = s.windowEntryCheck.bg from rfl]
  split_ifs <;> rfl

theorem State.withOuter_deliverIfDue : (s.withOuter o fb).deliverIfDue = s.deliverIfDue.withOuter o fb := by
  have bytes : ∀ r, (s.withOuter o fb).spriteRowBytes r = s.spriteRowBytes r := fun r => by
    unfold State.spriteRowBytes
    simp only [State.withOuter_vramRead]
    rfl
  have pixels : ∀ r, (s.withOuter o fb).incomingPixels r = s.incomingPixels r := fun r => by
    unfold State.incomingPixels State.spritePixels
    rw [bytes]
    rfl
  unfold State.deliverIfDue State.deliver
  dsimp only
  rw [pixels]
  rw [show (s.withOuter o fb).sp = s.sp from rfl]
  split_ifs <;> rfl

theorem State.withOuter_stage1End : (s.withOuter o fb).stage1End = s.stage1End.withOuter o fb := by
  unfold State.stage1End
  rw [show (s.withOuter o fb).sp = s.sp from rfl, show (s.withOuter o fb).bg = s.bg from rfl]
  split_ifs <;> rfl

theorem State.withOuter_stage1Dot : (s.withOuter o fb).stage1Dot = s.stage1Dot.withOuter o fb := by
  rw [State.stage1Dot_eq, State.stage1Dot_eq, show (s.withOuter o fb).stage1Start = s.stage1Start.withOuter o fb from rfl,
    State.withOuter_bgStep, show (s.withOuter o fb).bg = s.bg from rfl]
  split_ifs <;> exact State.withOuter_stage1End _ o fb

theorem State.withOuter_spriteDot : (s.withOuter o fb).spriteDot = s.spriteDot.withOuter o fb := by
  have stage1 := s.withOuter_stage1Dot o fb
  have stage3 : (s.withOuter o fb).stage3Dot = s.stage3Dot.withOuter o fb := by
    rw [State.stage3Dot_eq, State.stage3Dot_eq]; rfl
  unfold State.spriteDot
  rw [show (s.withOuter o fb).aborts = s.aborts from rfl, show (s.withOuter o fb).sp = s.sp from rfl]
  split_ifs
  · rfl
  · rfl
  · cases s.sp.stage with
    | stage1 => exact stage1
    | stage3 => exact stage3
    | idle | stage2 | stage4 | stage5 | stage6 => rfl

theorem State.withOuter_spriteStep :
    (s.withOuter o fb).spriteStep = (s.spriteStep.1, s.spriteStep.2.withOuter o fb) := by
  unfold State.spriteStep
  rw [State.withOuter_deliverIfDue]
  generalize s.deliverIfDue = u
  dsimp only
  rw [show (u.withOuter o fb).sp = u.sp from rfl, show (u.withOuter o fb).lx = u.lx from rfl]
  by_cases idle : u.sp.stage = .idle
  · rw [if_pos idle, if_pos idle]
    cases firstAtCursor u.sp.line u.lx with
    | none => rfl
    | some i => exact congrArg (Prod.mk true) ((u.beginFetch i).withOuter_spriteDot o fb)
  · rw [if_neg idle, if_neg idle]
    exact congrArg (Prod.mk true) (u.withOuter_spriteDot o fb)

theorem State.withOuter_resolve (b : Pixel) (p : Option Pixel) : (s.withOuter o fb).resolve b p = s.resolve b p := by
  cases p <;> rfl

/-- The Mixer writes the framebuffer it finds (R215). -/
theorem State.withOuter_mixStep : ∃ fb', (s.withOuter o fb).mixStep = s.mixStep.withOuter o fb' ∧
    (fb = s.mem.fb → fb' = s.mixStep.mem.fb) := by
  unfold State.mixStep
  rw [show (s.withOuter o fb).bg = s.bg from rfl]
  cases s.bg.queue with
  | nil => exact ⟨fb, rfl, id⟩
  | cons b rest =>
    dsimp only
    split_ifs
    · refine ⟨fb.write (fbKey s.ctl.ly.toNat s.lx) (s.resolve b s.sp.queue.head?), ?_, by rintro rfl; rfl⟩
      unfold State.mixPixel
      rw [State.withOuter_resolve]
      rfl
    · exact ⟨fb, rfl, id⟩

end

/-! ### A DRAW dot with pixels left -/

/-- The work of a DRAW dot with pixels left (R135). -/
def State.drawWork (u : State) : State := if u.spriteStep.1 then u.spriteStep.2 else u.spriteStep.2.bgStep.mixStep

theorem State.drawDot_of_pixelsLeft {s : State} (h : s.lx ≠ 160) : s.drawDot = s.drawWork := by
  unfold State.drawDot State.drawWork
  rw [if_neg h]
  rcases s.spriteStep with ⟨_ | _, t⟩ <;> rfl

theorem State.withOuter_drawWork (s : State) (o : Output) (fb : Memory Color15) :
    ∃ fb', (s.withOuter o fb).drawWork = s.drawWork.withOuter o fb' ∧ (fb = s.mem.fb → fb' = s.drawWork.mem.fb) := by
  unfold State.drawWork
  rw [State.withOuter_spriteStep]
  cases s.spriteStep.1 with
  | true => exact ⟨fb, rfl, fun h => by simp [h]⟩
  | false =>
    obtain ⟨fb', mixed, kept⟩ := s.spriteStep.2.bgStep.withOuter_mixStep o fb
    refine ⟨fb', ?_, fun h => kept (by simp [h])⟩
    rw [State.withOuter_bgStep]
    exact mixed

theorem drawOverruns_of_drawing {s : State} (h : s.drawing) : s.drawOverruns = false := drawOverruns_of_dot h.2.2.1

/-- Settles O29 (R81, R135). -/
theorem drawDotOrder : Obligations.DrawDotOrder := by
  unfold Obligations.DrawDotOrder
  rintro s u v drawing rfl rfl
  have ⟨en, mode, _, pixels⟩ := drawing
  obtain ⟨fb, work, kept⟩ := s.nextDot.withOuter_drawWork Output.none s.mem.fb
  have phase := (State.phase_of_draw (s := s.quiet) en mode).trans (State.drawDot_of_pixelsLeft (s := s.quiet.nextDot) pixels)
  refine completes_tick (drawOverruns_of_drawing drawing) (phase.trans work) fun t tick => ⟨tick.ctl, ⟨tick.bg, tick.sp, tick.lx, ?_⟩,
    tick.raised _ rfl⟩
  exact tick.fb.trans (kept rfl)

end Sys2Proof.Machine
end

section
/-! PROOFS. The dots of the Sprite Fetcher (42_sprite_fetcher.md R185 to R193, R198). Each is read off `drawDotOrder` once the
Sprite Fetcher's own step is known. -/

namespace Sys2Proof.Machine

/-! ### The Sprite Fetcher's step, case by case -/

theorem State.aborts_eq_false_iff (s : State) : s.aborts = false ↔ s.cfg.cgbMode = true ∨ s.reg.lcdc.getLsbD 1 = true := by
  unfold State.aborts State.objEn
  cases s.cfg.cgbMode <;> cases s.reg.lcdc.getLsbD 1 <;> decide

theorem State.deliverIfDue_of_ne {s : State} (h : s.sp.stage ≠ .stage6) : s.deliverIfDue = s := if_neg h

section
variable {s : State}

theorem State.spriteStep_of_fetch (idle : s.sp.stage ≠ .idle) (due : s.sp.stage ≠ .stage6) : s.spriteStep = (true, s.spriteDot) := by
  unfold State.spriteStep
  rw [State.deliverIfDue_of_ne due]
  exact if_neg idle

theorem State.spriteStep_of_trigger (idle : s.sp.stage = .idle) {i : Nat} (first : firstAtCursor s.sp.line s.lx = some i) :
    s.spriteStep = (true, (s.beginFetch i).spriteDot) := by
  unfold State.spriteStep
  rw [State.deliverIfDue_of_ne (by simp [idle])]
  simp only [idle, first, if_true]

theorem State.spriteStep_of_pass (idle : s.sp.stage = .idle) (none : firstAtCursor s.sp.line s.lx = none) :
    s.spriteStep = (false, s) := by
  unfold State.spriteStep
  rw [State.deliverIfDue_of_ne (by simp [idle])]
  simp only [idle, none, if_true]

theorem State.spriteDot_of_abort (h : s.aborts = true) : s.spriteDot = s.abortFetch := if_pos h

variable (goes : s.aborts = false)
include goes

theorem State.spriteDot_of_extra (pre : 0 < s.sp.pre) : s.spriteDot = State.penalty { s with sp := { s.sp with pre := s.sp.pre - 1 } } := by
  unfold State.spriteDot
  rw [if_neg (by simp [goes]), if_pos pre]

theorem State.spriteDot_of_stage1 (pre : s.sp.pre = 0) (stage : s.sp.stage = .stage1) : s.spriteDot = s.stage1Dot := by
  unfold State.spriteDot
  rw [if_neg (by simp [goes]), if_neg (by omega), stage]

theorem State.spriteDot_of_stage2 (pre : s.sp.pre = 0) (stage : s.sp.stage = .stage2) : s.spriteDot = s.oneDotStage .stage3 := by
  unfold State.spriteDot
  rw [if_neg (by simp [goes]), if_neg (by omega), stage]

theorem State.spriteDot_of_stage3 (pre : s.sp.pre = 0) (stage : s.sp.stage = .stage3) : s.spriteDot = s.stage3Dot := by
  unfold State.spriteDot
  rw [if_neg (by simp [goes]), if_neg (by omega), stage]

theorem State.spriteDot_of_stage4 (pre : s.sp.pre = 0) (stage : s.sp.stage = .stage4) : s.spriteDot = s.oneDotStage .stage5 := by
  unfold State.spriteDot
  rw [if_neg (by simp [goes]), if_neg (by omega), stage]

theorem State.spriteDot_of_stage5 (pre : s.sp.pre = 0) (stage : s.sp.stage = .stage5) : s.spriteDot = s.oneDotStage .stage6 := by
  unfold State.spriteDot
  rw [if_neg (by simp [goes]), if_neg (by omega), stage]

end

/-! ### The line list -/

theorem markDone_getElem? (l : List LineSprite) (i j : Nat) :
    (markDone l i)[j]? = (l[j]?).map fun e => if j = i then { e with done := true } else e := by
  induction l generalizing i j with
  | nil => rfl
  | cons e l ih =>
    cases i with
    | zero => cases j <;> simp [markDone]
    | succ i =>
      cases j with
      | zero => simp [markDone]
      | succ j => simp [markDone, ih]

/-- The first entry that is not processed and starts at the cursor (R186). -/
theorem firstAtCursor_of_first {l : List LineSprite} {lx i : Nat} {e : LineSprite} (entry : l[i]? = some e)
    (fresh : e.done = false) (here : e.sx = lx) (first : ∀ j < i, ∀ e', l[j]? = some e' → e'.done = true ∨ e'.sx ≠ lx) :
    firstAtCursor l lx = some i := by
  induction l generalizing i with
  | nil => simp at entry
  | cons a l ih =>
    cases i with
    | zero =>
      obtain rfl : a = e := by simpa using entry
      simp [firstAtCursor, fresh, here]
    | succ i =>
      have skip : (!a.done && a.sx == lx) = false := by
        have := first 0 (by omega) a rfl
        cases hd : a.done <;> simp_all
      have tail := ih (i := i) (by simpa using entry) fun j hj e' he' => first (j + 1) (by omega) e' (by simpa using he')
      simp [firstAtCursor, skip, tail]

theorem firstAtCursor_of_none {l : List LineSprite} {lx : Nat} (h : ∀ e ∈ l, e.done = true ∨ e.sx ≠ lx) :
    firstAtCursor l lx = none := by
  induction l with
  | nil => rfl
  | cons a l ih =>
    obtain ⟨ha, hl⟩ := List.forall_mem_cons.1 h
    have skip : (!a.done && a.sx == lx) = false := by cases hd : a.done <;> simp_all
    simp [firstAtCursor, skip, ih hl]

/-! ### The dots -/

theorem Completes.imp {i : Instr} {s : State} {P Q : State → Prop} (h : Completes i s P) (imp : ∀ t, P t → Q t) : Completes i s Q := by
  obtain ⟨t, ht, hP⟩ := h
  exact ⟨t, ht, imp t hP⟩

/-- What a DRAW dot leaves that the Sprite Fetcher consumes (R135). -/
theorem draw_consumed {s v : State} {P : State → Prop} (drawing : s.drawing) (step : s.nextDot.spriteStep = (true, v))
    (h : ∀ t, t.ctl = v.ctl → SameRenderer v t → Raised s t noSignals → P t) : Completes .tick s P :=
  (drawDotOrder s s.nextDot v drawing rfl (by rw [step]; rfl)).imp fun t ⟨ctl, renderer, raised⟩ => h t ctl renderer raised

/-- The sprite state after a dot of stages 2 to 5 or of the column-0 extra (R187, R190 to R193). -/
theorem State.spriteDot_of_counting {s : State} (goes : s.aborts = false)
    (stage : s.sp.stage ≠ .idle ∧ s.sp.stage ≠ .stage6 ∧ (s.sp.stage = .stage1 → 0 < s.sp.pre)) : ∃ p,
    s.spriteDot = { s.penalty with sp := p } ∧
      (0 < s.sp.pre → p = { s.sp with pre := s.sp.pre - 1 }) ∧
      (s.sp.pre = 0 → s.sp.stage = .stage2 → p = { s.sp with stage := .stage3 }) ∧
      (s.sp.pre = 0 → s.sp.stage = .stage3 →
        p = { s.sp with s3Dots := s.sp.s3Dots + 1, stage := if s.sp.s3Dots + 1 = 3 then .stage4 else .stage3 }) ∧
      (s.sp.pre = 0 → s.sp.stage = .stage4 → p = { s.sp with stage := .stage5 }) ∧
      (s.sp.pre = 0 → s.sp.stage = .stage5 → p = { s.sp with stage := .stage6 }) := by
  obtain ⟨idle, due, waits⟩ := stage
  rcases Nat.eq_zero_or_pos s.sp.pre with pre | pre
  · cases hs : s.sp.stage with
    | idle => exact absurd hs idle
    | stage6 => exact absurd hs due
    | stage1 => exact absurd (waits hs) (by omega)
    | stage2 =>
      exact ⟨{ s.sp with stage := .stage3 }, State.spriteDot_of_stage2 goes pre hs, by simp [pre], fun _ _ => rfl, nofun, nofun, nofun⟩
    | stage3 =>
      exact ⟨_, (State.spriteDot_of_stage3 goes pre hs).trans s.stage3Dot_eq, by simp [pre], nofun, fun _ _ => by rw [hs], nofun, nofun⟩
    | stage4 =>
      exact ⟨{ s.sp with stage := .stage5 }, State.spriteDot_of_stage4 goes pre hs, by simp [pre], nofun, nofun, fun _ _ => rfl, nofun⟩
    | stage5 =>
      exact ⟨{ s.sp with stage := .stage6 }, State.spriteDot_of_stage5 goes pre hs, by simp [pre], nofun, nofun, nofun, fun _ _ => rfl⟩
  · have zero : s.sp.pre ≠ 0 := by omega
    exact ⟨{ s.sp with pre := s.sp.pre - 1 }, State.spriteDot_of_extra goes pre, fun _ => rfl, fun h => absurd h zero,
      fun h => absurd h zero, fun h => absurd h zero, fun h => absurd h zero⟩

/-- Settles O39 (R187, R190 to R193). -/
theorem spriteStageDots : Obligations.SpriteStageDots := by
  unfold Obligations.SpriteStageDots
  intro s drawing objects stage
  obtain ⟨p, dot, sprites⟩ := State.spriteDot_of_counting (s := s.nextDot) (s.aborts_eq_false_iff.2 objects) stage
  have step := (State.spriteStep_of_fetch (s := s.nextDot) stage.1 stage.2.1).trans (congrArg (Prod.mk true) dot)
  refine draw_consumed drawing step fun t ctl ⟨bg, sp, lx, fb⟩ raised => ⟨ctl, bg, lx, fb, raised, ?_⟩
  rw [sp]
  exact sprites

/-- Settles O40 (R188). -/
theorem spriteAbortInMonochrome : Obligations.SpriteAbortInMonochrome := by
  unfold Obligations.SpriteAbortInMonochrome
  intro s cur drawing mono objects fetch
  have aborts : s.aborts = true := by simp only [State.aborts, State.objEn, mono, objects]; rfl
  rcases fetch with ⟨idle, due, rfl⟩ | ⟨idle, ⟨e, entry, fresh, here⟩, first⟩
  · have step := State.spriteStep_of_fetch (s := s.nextDot) idle due
    rw [State.spriteDot_of_abort (s := s.nextDot) aborts] at step
    refine draw_consumed drawing step fun t ctl ⟨bg, sp, lx, fb⟩ raised => ?_
    rw [sp]
    exact ⟨ctl, rfl, rfl, rfl, rfl, fun j => markDone_getElem? _ _ _, bg, lx, fb, raised⟩
  · have step := State.spriteStep_of_trigger (s := s.nextDot) idle (firstAtCursor_of_first entry fresh here first)
    rw [State.spriteDot_of_abort (s := s.nextDot.beginFetch cur) aborts] at step
    refine draw_consumed drawing step fun t ctl ⟨bg, sp, lx, fb⟩ raised => ?_
    rw [sp]
    exact ⟨ctl, rfl, rfl, rfl, rfl, fun j => markDone_getElem? _ _ _, bg, lx, fb, raised⟩

theorem State.stage1Dot_ctl (s : State) :
    s.stage1Dot.ctl = if s.bg.queue = [] then s.stage1Start.bgStep.ctl else s.penalty.ctl := by
  rw [State.stage1Dot_eq]
  have ends : ∀ u : State, u.stage1End.ctl = u.ctl := fun u => by unfold State.stage1End; split_ifs <;> rfl
  rw [ends]
  by_cases hq : s.bg.queue = [] <;> simp [hq, State.stage1Start, State.penalty]

theorem State.stage1Start_bgStep (s : State) :
    s.stage1Start.bgStep.bg = s.penalty.bgStep.bg ∧ s.stage1Start.bgStep.ctl = s.penalty.bgStep.ctl := by
  have clocked := s.penalty.bgStep_setSp { s.sp with s1Dots := s.sp.s1Dots + 1 }
  exact ⟨(congrArg State.bg clocked :), (congrArg State.ctl clocked :)⟩

/-- Settles O41 (R189). -/
theorem spriteStage1WaitsForQueue : Obligations.SpriteStage1WaitsForQueue := by
  unfold Obligations.SpriteStage1WaitsForQueue
  rintro s u drawing objects stage pre rfl
  have step := State.spriteStep_of_fetch (s := s.nextDot) (by simp [State.nextDot, stage]) (by simp [State.nextDot, stage])
  rw [State.spriteDot_of_stage1 (s := s.nextDot) (s.aborts_eq_false_iff.2 objects) pre stage] at step
  obtain ⟨clockedBg, clockedCtl⟩ := s.nextDot.stage1Start_bgStep
  refine draw_consumed drawing step fun t ctl ⟨bg, sp, lx, fb⟩ raised =>
    ⟨fun queue => ⟨bg.trans ?_, ctl.trans ?_⟩, fun queue => ⟨bg.trans ?_, ctl.trans ?_⟩, ?_, ?_, ?_, raised⟩
  · rw [State.stage1Dot_bg]; exact if_neg queue
  · rw [State.stage1Dot_ctl]; exact if_neg queue
  · rw [State.stage1Dot_bg]; exact (if_pos queue).trans clockedBg
  · rw [State.stage1Dot_ctl]; exact (if_pos queue).trans clockedCtl
  · rw [sp, State.stage1Dot_sp, bg, show s.nextDot.sp.stage = .stage1 from stage]; rfl
  · rw [lx, State.stage1Dot_lx]; rfl
  · rw [fb, State.stage1Dot_mem]; rfl

/-! ### The trigger -/

/-- A fetch that begins suspends the Background Fetcher (R186). -/
def State.suspendBg (s : State) : State := { s with bg := { s.bg with suspended := true } }

/-- The first dot of a fetch that begins at column 0 with a fine scroll (R187). -/
theorem State.spriteDot_of_beginExtra {s : State} {i : Nat} (due : s.extraDue = true) (goes : s.aborts = false)
    (scroll : s.fineScroll ≠ 0) : (s.beginFetch i).spriteDot = { s.suspendBg.penalty with
      sp := { s.sp with cur := i, stage := .stage1, s1Dots := 0, s3Dots := 0, extraDone := true, pre := s.fineScroll - 1 } } := by
  have begun : s.beginFetch i = { s.suspendBg with
      sp := { s.sp with cur := i, stage := .stage1, s1Dots := 0, s3Dots := 0, extraDone := true, pre := s.fineScroll } } := by
    unfold State.beginFetch
    rw [due, Bool.or_true, if_pos rfl]
    rfl
  have pre : 0 < (s.beginFetch i).sp.pre := by rw [begun]; exact Nat.pos_of_ne_zero scroll
  rw [State.spriteDot_of_extra (s := s.beginFetch i) goes pre, begun]
  rfl

/-- The state a fetch begins in without the column-0 extra (R186). -/
theorem State.beginFetch_of_plain {s : State} {i : Nat} (due : s.extraDue = false) : s.beginFetch i =
    { s.suspendBg with sp := { s.sp with cur := i, stage := .stage1, s1Dots := 0, s3Dots := 0, pre := 0 } } := by
  unfold State.beginFetch
  rw [due, Bool.or_false]
  rfl

theorem State.extraDue_iff (s : State) :
    s.extraDue = true ↔ s.lx = 0 ∧ s.reg.scx.toNat % 8 ≠ 0 ∧ s.sp.extraDone = false := by
  simp [State.extraDue, State.fineScroll, and_assoc]

/-! The Background Fetcher does not release itself. -/

theorem State.tryPush_suspended (s : State) : s.tryPush.bg.suspended = s.bg.suspended := by
  by_cases room : s.bg.queue.length ≤ 8
  · rw [State.tryPush_bg_of_room room]
  · rw [State.tryPush_of_full (by omega)]

theorem State.bgStageDot_suspended (s : State) : s.bgStageDot.bg.suspended = s.bg.suspended := by
  unfold State.bgStageDot
  cases s.bg.stage with
  | getTile | getTileDataLow => dsimp only; split_ifs <;> rfl
  | getTileDataHigh =>
    dsimp only; split_ifs
    · exact State.tryPush_suspended _
    · rfl
  | sleep | push => exact s.tryPush_suspended

theorem State.bgStep_suspended (s : State) : s.bgStep.bg.suspended = s.bg.suspended := by
  have entry : s.windowEntryCheck.bg.suspended = s.bg.suspended := by
    unfold State.windowEntryCheck State.enterWindow
    dsimp only
    split_ifs <;> rfl
  unfold State.bgStep
  dsimp only
  split_ifs
  · exact entry
  · rw [State.bgStageDot_suspended, entry]

/-- The first dot of stage 1 (R189). -/
theorem State.spriteDot_of_begun {u : State} {p : SpriteFetcher} (goes : u.aborts = false) (stage : p.stage = .stage1)
    (pre : p.pre = 0) (fresh : p.s1Dots = 0) {v : State} (hv : v = State.spriteDot { u with sp := p }) :
    v.sp = { p with s1Dots := 1 } ∧ v.lx = u.lx ∧ v.mem = u.mem ∧
      (u.bg.queue ≠ [] → v.ctl = u.penalty.ctl ∧ v.bg = u.bg) ∧
      (u.bg.queue = [] → v.ctl = u.penalty.bgStep.ctl ∧ v.bg = u.penalty.bgStep.bg) := by
  subst hv
  have clocked := u.penalty.bgStep_setSp { p with s1Dots := p.s1Dots + 1 }
  have start : State.stage1Start { u with sp := p } = { u.penalty with sp := { p with s1Dots := p.s1Dots + 1 } } := rfl
  rw [State.spriteDot_of_stage1 (s := { u with sp := p }) goes pre stage, State.stage1Dot_sp, State.stage1Dot_bg, State.stage1Dot_ctl,
    State.stage1Dot_lx, State.stage1Dot_mem, start, clocked]
  have early : ¬(5 ≤ p.s1Dots + 1) := by omega
  refine ⟨?_, rfl, rfl, fun queue => ⟨if_neg queue, if_neg queue⟩, fun queue => ⟨if_pos queue, if_pos queue⟩⟩
  dsimp only
  rw [if_neg fun h => early h.1, fresh, stage]

/-- Settles O42 (R136, R186, R187, R189). -/
theorem spriteTriggerAtCursor : Obligations.SpriteTriggerAtCursor := by
  unfold Obligations.SpriteTriggerAtCursor
  intro s drawing idle
  refine ⟨fun i e objects entry fresh here first => ?_, fun none u hu => ?_⟩
  · rintro u rfl
    have goes : s.nextDot.aborts = false := s.aborts_eq_false_iff.2 objects
    have step := State.spriteStep_of_trigger (s := s.nextDot) idle (firstAtCursor_of_first entry fresh here first)
    by_cases due : s.lx = 0 ∧ s.reg.scx.toNat % 8 ≠ 0 ∧ s.sp.extraDone = false
    · rw [State.spriteDot_of_beginExtra (s.nextDot.extraDue_iff.2 due) goes due.2.1] at step
      refine draw_consumed drawing step fun t ctl ⟨bg, sp, lx, fb⟩ raised => ⟨lx, fb, raised, by rw [bg]; rfl, ?_⟩
      rw [if_pos due]
      exact ⟨sp, ctl, bg⟩
    · have plain : s.nextDot.extraDue = false := by rw [← Bool.not_eq_true, State.extraDue_iff]; exact due
      obtain ⟨sp', lx', mem', still, clocked⟩ := State.spriteDot_of_begun (u := s.nextDot.suspendBg) goes rfl rfl rfl
        (congrArg State.spriteDot (State.beginFetch_of_plain (i := i) plain))
      refine draw_consumed drawing step fun t ctl ⟨bg, sp, lx, fb⟩ raised =>
        ⟨lx.trans lx', fb.trans (congrArg Memories.fb mem'), raised, ?_, ?_⟩
      · by_cases queue : s.bg.queue = []
        · exact (congrArg (·.suspended) (bg.trans (clocked queue).2)).trans (State.bgStep_suspended _)
        · exact congrArg (·.suspended) (bg.trans (still queue).2)
      · rw [if_neg due]
        exact ⟨sp.trans sp', fun queue => ⟨ctl.trans (still queue).1, bg.trans (still queue).2⟩,
          fun queue => ⟨ctl.trans (clocked queue).1, bg.trans (clocked queue).2⟩⟩
  · have step := State.spriteStep_of_pass (s := s.nextDot) idle (firstAtCursor_of_none none)
    exact drawDotOrder s s.nextDot u drawing rfl (by rw [step, hu]; rfl)

/-! ### Delivery -/

/-- Stage 6 is delivered before the dot's own work (R185). -/
theorem State.spriteStep_deliver {s : State} (due : s.sp.stage = .stage6) : s.deliver.spriteStep = s.spriteStep := by
  unfold State.spriteStep
  rw [State.deliverIfDue_of_ne (s := s.deliver) nofun, show s.deliverIfDue = s.deliver from if_pos due]

/-- Settles O43 (R185, R193, R198). -/
theorem deliveryTakesNoDot : Obligations.DeliveryTakesNoDot := by
  unfold Obligations.DeliveryTakesNoDot
  intro s drawing due
  have ⟨en, mode, dot, pixels⟩ := drawing
  have after : s.deliver.drawing := ⟨en, mode, dot, pixels⟩
  have next := (exec_tick_next s _).2 ⟨drawOverruns_of_drawing drawing, rfl⟩
  refine ⟨?_, ⟨_, next⟩, rfl, fun j => markDone_getElem? _ _ _⟩
  have work : s.deliver.quiet.nextDot.drawWork = s.quiet.nextDot.drawWork := by
    unfold State.drawWork
    rw [show s.deliver.quiet.nextDot = s.quiet.nextDot.deliver from rfl, State.spriteStep_deliver (s := s.quiet.nextDot) due]
  have phase : s.deliver.quiet.phase = s.quiet.phase := by
    rw [State.phase_of_draw (s := s.deliver.quiet) en mode, State.phase_of_draw (s := s.quiet) en mode,
      State.drawDot_of_pixelsLeft (s := s.deliver.quiet.nextDot) pixels, State.drawDot_of_pixelsLeft (s := s.quiet.nextDot) pixels,
      work]
  rw [next]
  exact ((exec_tick_next s.deliver _).2 ⟨drawOverruns_of_drawing after, by rw [State.dot_eq, State.dot_eq, phase]⟩).symm

end Sys2Proof.Machine
end

section
/-! PROOFS. The framebuffer is never read (10_state.md R44): every operation commutes with replacing it. -/

namespace Sys2Proof.Machine

/-- What an hblank transfer counts once its block is copied (R243, R244). -/
def State.blockCounted (t : State) : State :=
  let u := { t with ctl := { t.ctl with hblankCopied := true }, vdma := { t.vdma with blocks := t.vdma.blocks - 1 } }
  if u.vdma.blocks = 0 then u.vdmaComplete else { u with vdma := { u.vdma with len := u.vdma.len - 1#7 } }

theorem State.hblankCopy_eq (s : State) : s.hblankCopy = s.copyBlock.blockCounted := rfl

section
variable (s : State) (fb : Memory Color15)

/-! ### Reads and stores -/

theorem State.setFb_eq : s.setFb fb = s.withOuter s.out fb := rfl

@[simp] theorem State.setFb_peek (p : Space) (a : Nat) : (s.setFb fb).peek p a = s.peek p a := s.withOuter_peek _ fb p a

theorem State.setFb_poke (p : Space) (a : Nat) (v : Byte) : (s.setFb fb).poke p a v = (s.poke p a v).setFb fb := by cases p <;> rfl

theorem State.setFb_memRead (a : Addr) : (s.setFb fb).memRead a = s.memRead a := by
  have vram := s.setFb_peek fb (vramSpace s.reg.vbk) a.toNat
  simp only [State.memRead, State.busRead, Bool.not_true, Bool.false_and, Bool.false_eq_true, if_false, State.dispatchRead]
  cases busTarget a with
  | vram => exact vram
  | lcdc | stat | scy | scx | ly | lyc | dma | bgp | obp0 | obp1 | wy | wx | vbk | hdma1 | hdma2 | hdma3 | hdma4 | hdma5 | bcps
  | bcpd | ocps | ocpd | oam | mem => rfl

/-! ### The copies -/

theorem State.setFb_vdmaByte (k : Nat) : (s.setFb fb).vdmaByte k = (s.vdmaByte k).setFb fb := by
  unfold State.vdmaByte State.vramWrite
  rw [State.setFb_memRead]
  exact s.setFb_poke fb _ _ _

theorem State.setFb_oamDmaByte (k : Nat) : (s.setFb fb).oamDmaByte k = (s.oamDmaByte k).setFb fb := by
  unfold State.oamDmaByte State.oamWrite
  rw [State.setFb_memRead]
  exact s.setFb_poke fb _ _ _

theorem State.setFb_blockBytes : (s.setFb fb).blockBytes = s.blockBytes.setFb fb :=
  List.foldl_hom (State.setFb · fb) fun u k => u.setFb_vdmaByte fb k

theorem State.setFb_oamDmaCopy : (s.setFb fb).oamDmaCopy = s.oamDmaCopy.setFb fb :=
  List.foldl_hom (State.setFb · fb) fun u k => u.setFb_oamDmaByte fb k

theorem State.setFb_copyBlock : (s.setFb fb).copyBlock = s.copyBlock.setFb fb := by
  unfold State.copyBlock
  rw [State.setFb_blockBytes]
  rfl

theorem State.setFb_copyBlocks (n : Nat) : (s.setFb fb).copyBlocks n = (s.copyBlocks n).setFb fb := by
  have commute : Function.Commute State.copyBlock (State.setFb · fb) := fun u => u.setFb_copyBlock fb
  exact commute.iterate_left n s

theorem State.setFb_blockCounted : (s.setFb fb).blockCounted = s.blockCounted.setFb fb := by
  unfold State.blockCounted
  dsimp only
  rw [show (s.setFb fb).vdma = s.vdma from rfl]
  split_ifs <;> rfl

theorem State.setFb_hblankCopy : (s.setFb fb).hblankCopy = s.hblankCopy.setFb fb := by
  rw [State.hblankCopy_eq, State.hblankCopy_eq, State.setFb_copyBlock, State.setFb_blockCounted]

theorem State.setFb_vdmaHblankCopy : (s.setFb fb).vdmaHblankCopy = s.vdmaHblankCopy.setFb fb := by
  unfold State.vdmaHblankCopy
  rw [State.setFb_hblankCopy, show (s.setFb fb).hblankCopyDue = s.hblankCopyDue from rfl]
  split_ifs <;> rfl

theorem State.setFb_oamDmaTick : (s.setFb fb).oamDmaTick = s.oamDmaTick.setFb fb := by
  have copy := s.oamCopyStart.setFb_oamDmaCopy fb
  cases active : s.odma.active with
  | false => rw [State.oamDmaTick_of_inactive active, State.oamDmaTick_of_inactive (s := s.setFb fb) active]
  | true =>
    by_cases last : s.odma.dots + 1 = 640
    · rw [State.oamDmaTick_of_copies active last, State.oamDmaTick_of_copies (s := s.setFb fb) active last,
        show (s.setFb fb).oamCopyStart = s.oamCopyStart.setFb fb from rfl, copy]
      rfl
    · rw [State.oamDmaTick_of_counts active last, State.oamDmaTick_of_counts (s := s.setFb fb) active last]
      rfl

theorem State.setFb_vdmaTick : (s.setFb fb).vdmaTick = s.vdmaTick.setFb fb := by
  unfold State.vdmaTick
  rw [show (s.setFb fb).vdma = s.vdma from rfl, show (s.setFb fb).cfg = s.cfg from rfl]
  dsimp only
  generalize s.vdma.dots + (if s.cfg.doubleSpeed = true then 1 else 2) = n
  split_ifs <;> rfl

/-! ### The controller -/

theorem State.setFb_raiseIf (c : Bool) (g : Signal) : (s.setFb fb).raiseIf c g = (s.raiseIf c g).setFb fb := by
  cases c <;> rfl

theorem State.setFb_enterOamSearch : (s.setFb fb).enterOamSearch = s.enterOamSearch.setFb fb := by
  unfold State.enterOamSearch
  dsimp only
  rw [← State.setFb_raiseIf, ← State.setFb_raiseIf]
  rfl

theorem State.setFb_endDraw : (s.setFb fb).endDraw = s.endDraw.setFb fb := by
  unfold State.endDraw State.enterHBlank
  rw [← State.setFb_raiseIf]
  rfl

theorem State.setFb_enterVBlank : (s.setFb fb).enterVBlank = s.enterVBlank.setFb fb := by
  unfold State.enterVBlank
  dsimp only
  rw [← State.setFb_raiseIf]
  rfl

theorem State.setFb_hblankDot : (s.setFb fb).hblankDot = s.hblankDot.setFb fb := by
  have copied := s.setFb_vdmaHblankCopy fb
  by_cases last : s.ctl.modeDot = s.ctl.hblankLen
  · rw [State.hblankDot_of_last last, State.hblankDot_of_last (s := s.setFb fb) last, copied]
    generalize s.vdmaHblankCopy = u
    by_cases line : u.ctl.ly = 143#8
    · rw [State.endOfLine_of_143 line, State.endOfLine_of_143 (s := u.setFb fb) line, ← State.setFb_enterVBlank]; rfl
    · rw [State.endOfLine_of_not_143 line, State.endOfLine_of_not_143 (s := u.setFb fb) line, ← State.setFb_enterOamSearch]; rfl
  · rw [State.hblankDot_of_notLast last, State.hblankDot_of_notLast (s := s.setFb fb) last, copied]

theorem State.setFb_vblankDot : (s.setFb fb).vblankDot = s.vblankDot.setFb fb := by
  by_cases last : s.ctl.modeDot = 4560
  · rw [State.vblankDot_of_last last, State.vblankDot_of_last (s := s.setFb fb) last, ← State.setFb_enterOamSearch]; rfl
  · rw [State.vblankDot_of_notLast last, State.vblankDot_of_notLast (s := s.setFb fb) last]; rfl

theorem State.setFb_oamSearchDot : (s.setFb fb).oamSearchDot = s.oamSearchDot.setFb fb := by
  unfold State.oamSearchDot
  rw [show (s.setFb fb).ctl = s.ctl from rfl]
  split_ifs <;> rfl

theorem State.setFb_drawDot : ∃ fb', (s.setFb fb).drawDot = s.drawDot.setFb fb' := by
  by_cases hlx : s.lx = 160
  · rw [show s.drawDot = s.endDraw from if_pos hlx, show (s.setFb fb).drawDot = (s.setFb fb).endDraw from if_pos hlx]
    exact ⟨fb, s.setFb_endDraw fb⟩
  · have out : s.drawWork.out = s.out := by rw [← State.drawDot_of_pixelsLeft hlx, State.drawDot_out_of_pixelsLeft hlx]
    obtain ⟨fb', work, -⟩ := s.withOuter_drawWork s.out fb
    rw [State.drawDot_of_pixelsLeft hlx, State.drawDot_of_pixelsLeft (s := s.setFb fb) hlx]
    exact ⟨fb', work.trans (by rw [State.setFb_eq, out])⟩

theorem State.setFb_phase : ∃ fb', (s.setFb fb).phase = s.phase.setFb fb' := by
  cases en : s.lcdEn with
  | false => rw [State.phase_of_off en, State.phase_of_off (s := s.setFb fb) en]; exact ⟨fb, rfl⟩
  | true =>
    cases mode : s.ctl.mode with
    | oamSearch =>
      rw [State.phase_of_oamSearch en mode, State.phase_of_oamSearch (s := s.setFb fb) en mode]
      exact ⟨fb, s.nextDot.setFb_oamSearchDot fb⟩
    | draw =>
      rw [State.phase_of_draw en mode, State.phase_of_draw (s := s.setFb fb) en mode]
      exact s.nextDot.setFb_drawDot fb
    | hBlank =>
      rw [State.phase_of_hBlank en mode, State.phase_of_hBlank (s := s.setFb fb) en mode]
      exact ⟨fb, s.nextDot.setFb_hblankDot fb⟩
    | vBlank =>
      rw [State.phase_of_vBlank en mode, State.phase_of_vBlank (s := s.setFb fb) en mode]
      exact ⟨fb, s.nextDot.setFb_vblankDot fb⟩

theorem State.setFb_dot : ∃ fb', (s.setFb fb).dot = s.dot.setFb fb' := by
  obtain ⟨fb', phase⟩ := s.setFb_phase fb
  exact ⟨fb', by rw [State.dot_eq, State.dot_eq, phase, State.setFb_oamDmaTick, State.setFb_vdmaTick]⟩

/-! ### The writes -/

theorem State.setFb_cgbWrite {t u : State} (h : u = t.setFb fb) : (s.setFb fb).cgbWrite u = (s.cgbWrite t).setFb fb := by
  subst h
  unfold State.cgbWrite
  rw [show (s.setFb fb).cfg = s.cfg from rfl]
  split_ifs <;> rfl

theorem State.setFb_writeLcdc (d : Byte) : (s.setFb fb).writeLcdc d = (s.writeLcdc d).setFb fb := by
  unfold State.writeLcdc
  rw [show (s.setFb fb).lcdEn = s.lcdEn from rfl]
  dsimp only
  split_ifs
  · rfl
  · exact State.setFb_enterOamSearch { s with reg := { s.reg with lcdc := d } } fb
  · rfl

theorem State.setFb_startGeneral (v : Byte) : (s.setFb fb).startGeneral v = (s.startGeneral v).setFb fb := by
  have copy := ((s.vdmaLoad v).setVdmaMode .general).setFb_copyBlocks fb ((s.vdmaLoad v).setVdmaMode .general).vdma.blocks
  exact congrArg (fun t : State =>
    { t with vdma := { t.vdma with dots := 0, threshold := Config.vdmaBlockThreshold * vdmaBlocksOf v, blocks := 0 } }) copy

theorem State.setFb_vdmaWrite (v : Byte) : (s.setFb fb).vdmaWrite v = (s.vdmaWrite v).setFb fb := by
  unfold State.vdmaWrite
  rw [State.setFb_startGeneral, show (s.setFb fb).vdma = s.vdma from rfl]
  cases s.vdma.mode with
  | general => rfl
  | hblank | idle => dsimp only; split_ifs <;> rfl

end

theorem exec_setFb {i : Instr} {s t : State} (fb : Memory Color15) (h : exec i s = .next t) :
    ∃ fb', exec i (s.setFb fb) = .next (t.setFb fb') := by
  have gate : ∀ a, (s.setFb fb).gated a = s.gated a := fun _ => rfl
  cases i with
  | tick =>
    obtain ⟨completes, rfl⟩ := (exec_tick_next s t).1 h
    obtain ⟨fb', dot⟩ := s.quiet.setFb_dot fb
    exact ⟨fb', (exec_tick_next _ _).2 ⟨completes, (congrArg State.countSignals dot).symm⟩⟩
  | rdLcdc | rdStat | rdScy | rdScx | rdLy | rdLyc | rdDma | rdBgp | rdObp0 | rdObp1 | rdWy | rdWx | rdVbk | rdHdma1 | rdHdma2
  | rdHdma3 | rdHdma4 | rdHdma5 | rdBcps | rdBcpd | rdOcps | rdOcpd | rdOam _ | rdMem _ =>
    injection h with h; subst h; exact ⟨fb, rfl⟩
  | rdVram a =>
    injection h with h; subst h
    refine ⟨fb, congrArg (fun r => Host.Outcome.next ((s.setFb fb).answer r)) ?_⟩
    rw [gate]
    exact congrArg (ite _ _) (s.setFb_peek fb _ _)
  | wrLcdc d =>
    injection h with h; subst h
    exact ⟨fb, congrArg (fun t : State => Host.Outcome.next t.countSignals) (s.quiet.setFb_writeLcdc fb d)⟩
  | wrStat _ | wrScy _ | wrScx _ | wrLy _ | wrLyc _ | wrDma _ | wrBgp _ | wrObp0 _ | wrObp1 _ | wrWy _ | wrWx _ =>
    injection h with h; subst h; exact ⟨fb, rfl⟩
  | wrVbk _ | wrHdma1 _ | wrHdma2 _ | wrHdma3 _ | wrHdma4 _ | wrBcps _ | wrOcps _ | wrBcpd _ | wrOcpd _ =>
    injection h with h; subst h; exact ⟨fb, congrArg Host.Outcome.next (s.quiet.setFb_cgbWrite fb rfl)⟩
  | wrHdma5 d =>
    injection h with h; subst h
    exact ⟨fb, congrArg Host.Outcome.next (s.quiet.setFb_cgbWrite fb (s.quiet.setFb_vdmaWrite fb d))⟩
  | wrVram a d =>
    injection h with h; subst h
    refine ⟨fb, congrArg Host.Outcome.next ?_⟩
    rw [gate]
    split_ifs
    · rfl
    · exact s.quiet.setFb_poke fb _ _ _
  | wrOam a d =>
    injection h with h; subst h
    refine ⟨fb, congrArg Host.Outcome.next ?_⟩
    rw [gate]
    split_ifs <;> rfl
  | wrMem a d => injection h with h; subst h; exact ⟨fb, rfl⟩

/-- Settles O52 (R44). -/
theorem framebufferNeverRead : Obligations.FramebufferNeverRead := by
  unfold Obligations.FramebufferNeverRead
  refine fun i s fb => ⟨fun t h => exec_setFb fb h, fun f h => ?_⟩
  obtain rfl := exec_fault_tick i s f h
  exact (exec_tick_fault _ f).2 ((exec_tick_fault s f).1 h)

end Sys2Proof.Machine
end

section
/-! PROOFS. The Background Fetcher's dots and the addresses of both fetchers (41_bg_fetcher.md R160 to R170, 30_encoding.md R104 to
R106, 42_sprite_fetcher.md R194). -/

namespace Sys2Proof.Machine

/-! ### Addresses -/

theorem mapCell_bounds (sel : Bool) {row col : Nat} (hrow : row < 32) (hcol : col < 32) :
    mapBase sel ≤ mapCell sel row col ∧ mapCell sel row col < mapBase sel + 1024 := by
  unfold mapCell; omega

theorem tileDataBase_of_unsigned (idx : Byte) : tileDataBase true idx = 0x8000 + 16 * idx.toNat := rfl

/-- The signed index counts around 0x9000 (R166). -/
theorem tileDataBase_of_signed (idx : Byte) : (tileDataBase false idx : Int) = 0x9000 + 16 * idx.toInt := by
  have signed := BitVec.toInt_eq_toNat_cond idx
  have msb := BitVec.msb_eq_decide idx
  have range := idx.isLt
  unfold tileDataBase
  rw [if_neg (by decide), BitVec.toNat_add, BitVec.toNat_mul, BitVec.toNat_signExtend, msb, signed]
  simp only [BitVec.toNat_ofNat, BitVec.toNat_setWidth, decide_eq_true_eq, Nat.reducePow, Nat.reduceSub, Nat.reduceMod]
  split_ifs <;> omega

theorem toInt_bounds (idx : Byte) : -128 ≤ idx.toInt ∧ idx.toInt ≤ 127 := by
  have signed := BitVec.toInt_eq_toNat_cond idx
  have range := idx.isLt
  split_ifs at signed <;> omega

/-- The even tile of a tall sprite's pair, or the odd one (R194). -/
theorem tallTile_toNat (tile : Byte) (lower : Bool) :
    ((tile &&& 0xFE#8) ||| (if lower then 1#8 else 0#8)).toNat = tile.toNat / 2 * 2 + (if lower then 1 else 0) := by
  revert tile lower
  decide

theorem spriteRow_lt (ly y : Byte) {h : Nat} (hh : 0 < h) (flip : Bool) : spriteRow ly y h flip < h := by
  have := Nat.mod_lt (ly + 16#8 - y).toNat hh
  unfold spriteRow
  dsimp only
  split_ifs <;> omega

theorem spriteTileRow_of_tall (tile : Byte) {r : Nat} (hr : r < 16) :
    (spriteTileRow tile 16 r).1.toNat = tile.toNat / 2 * 2 + r / 8 ∧ (spriteTileRow tile 16 r).2 = r % 8 := by
  have tall := tallTile_toNat tile (decide (8 ≤ r))
  simp only [decide_eq_true_eq] at tall
  refine ⟨tall.trans ?_, rfl⟩
  split_ifs <;> omega

theorem spriteTileRow_of_short (tile : Byte) (r : Nat) : spriteTileRow tile 8 r = (tile, r) := rfl

/-- Settles O38 (R71, R76, R105, R166, R194). -/
theorem fetchAddressesInRange : Obligations.FetchAddressesInRange := by
  unfold Obligations.FetchAddressesInRange
  refine ⟨fun s => ⟨mapCell_bounds _ ?_ (Nat.mod_lt _ (by omega)), mapCell_bounds _ (Nat.mod_lt _ (by omega)) (Nat.mod_lt _ (by omega))⟩,
    fun sel idx => ?_, fun ly y tile tall flip h r hh hr => ?_⟩
  · have := (s.ctl.ly + s.reg.scy).isLt
    omega
  · cases sel with
    | true => rw [tileDataBase_of_unsigned]; have := idx.isLt; simp; omega
    | false =>
      have base := tileDataBase_of_signed idx
      have range := toInt_bounds idx
      simp only [Bool.false_eq_true, if_false]; omega
  · have range := tile.isLt
    cases tall with
    | true =>
      obtain rfl : h = 16 := hh
      have row : r < 16 := hr ▸ spriteRow_lt ly y (by omega) flip
      obtain ⟨tileNat, rowNat⟩ := spriteTileRow_of_tall tile row
      unfold spriteRowAddr
      rw [tileNat, rowNat]
      omega
    | false =>
      obtain rfl : h = 8 := hh
      have row : r < 8 := hr ▸ spriteRow_lt ly y (by omega) flip
      rw [spriteTileRow_of_short]
      unfold spriteRowAddr
      refine ⟨row, row, ?_, ?_, nofun⟩ <;> dsimp only <;> omega

/-! ### The stages -/

/-- The bank that bit 3 of a map entry's or a record's last byte selects (R106, R108). -/
theorem vramSpace_of_attr (cgb : Bool) (attr : Byte) :
    vramSpace (if cgb then attr.extractLsb' 3 1 else 0#1) = if cgb && attr.getLsbD 3 then .vram1 else .vram0 := by
  cases cgb with
  | false => rfl
  | true =>
    have bank : attr.extractLsb' 3 1 = BitVec.ofBool (attr.getLsbD 3) := by
      ext i hi
      obtain rfl : i = 0 := by omega
      simp
    rw [if_pos rfl, bank, Bool.true_and]
    cases attr.getLsbD 3 <;> rfl

theorem State.bgStageDot_of_first {s : State} (stage : s.bg.stage = .getTile ∨ s.bg.stage = .getTileDataLow ∨
    s.bg.stage = .getTileDataHigh) (dot : s.bg.stageDot = 0) : s.bgStageDot = { s with bg := { s.bg with stageDot := 1 } } := by
  unfold State.bgStageDot
  rcases stage with h | h | h <;> simp only [h, dot] <;> rfl

theorem State.fetchMapAddr_eq (s : State) : s.fetchMapAddr = (if s.bg.inWindow then
      (if s.reg.lcdc.getLsbD 6 then 0x9C00 else 0x9800) + 32 * (s.ctl.winLine.toNat / 8 % 32) + s.bg.fetchX % 32
    else (if s.reg.lcdc.getLsbD 3 then 0x9C00 else 0x9800) +
      32 * ((s.ctl.ly.toNat + s.reg.scy.toNat) % 256 / 8) + (s.reg.scx.toNat / 8 + s.bg.fetchX) % 32) := by
  rw [← show (s.ctl.ly + s.reg.scy).toNat = (s.ctl.ly.toNat + s.reg.scy.toNat) % 256 from BitVec.toNat_add _ _]
  rfl

theorem State.bgStageDot_of_getTile {s : State} (stage : s.bg.stage = .getTile) (dot : s.bg.stageDot = 1) :
    s.bgStageDot = { s with bg := { s.bg with
      stage := .getTileDataLow
      stageDot := 0
      tileIdx := s.peek .vram0 s.fetchMapAddr
      tileAttr := if s.cfg.cgbMode then s.peek .vram1 s.fetchMapAddr else 0#8 } } := by
  unfold State.bgStageDot
  simp only [stage, dot]
  rfl

theorem State.bgStageDot_of_getTileData {s : State} (stage : s.bg.stage = .getTileDataLow) (dot : s.bg.stageDot = 1) :
    s.bgStageDot = { s with bg := { s.bg with
      stage := .getTileDataHigh
      stageDot := 0
      tileBytes := (List.range 16).map fun k => s.vramRead (if s.cfg.cgbMode then mapAttrBank s.bg.tileAttr else 0#1)
        (tileDataBase s.tileSel s.bg.tileIdx + k) } } := by
  unfold State.bgStageDot
  simp only [stage, dot]
  rfl

/-- A fetcher that has its tile tries to push it, on the second dot of its last stage or asleep (R167, R168). -/
theorem State.bgStageDot_of_tile {s : State} (stage : s.bg.stage = .sleep ∨ (s.bg.stage = .getTileDataHigh ∧ s.bg.stageDot = 1)) :
    s.bgStageDot = State.tryPush (if s.bg.stage = .sleep then s else { s with bg := { s.bg with stage := .sleep, stageDot := 0 } }) := by
  unfold State.bgStageDot
  rcases stage with h | ⟨h, dot⟩
  · simp only [h]; rfl
  · simp only [h, dot]; rfl

/-- Settles O35 (R160, R163 to R167). -/
theorem fetchStagesTakeTwoDots : Obligations.FetchStagesTakeTwoDots := by
  unfold Obligations.FetchStagesTakeTwoDots
  intro s stays stall
  rw [State.bgStep_of_stays stays stall]
  refine ⟨State.bgStageDot_of_first, fun stage dot a ha => ?_, fun stage dot base p hbase hp => ?_, fun stage dot full => ?_,
    fun stage full => ?_⟩
  · rw [State.bgStageDot_of_getTile stage dot, ha, State.fetchMapAddr_eq]
  · have addr : tileDataBase s.tileSel s.bg.tileIdx = base.toNat := by
      rw [hbase, State.tileSel]
      cases s.reg.lcdc.getLsbD 4 with
      | true => rw [tileDataBase_of_unsigned]; simp only [if_true]; omega
      | false => have := tileDataBase_of_signed s.bg.tileIdx; simp only [Bool.false_eq_true, if_false]; omega
    rw [State.bgStageDot_of_getTileData stage dot, hp, ← vramSpace_of_attr, addr]
    rfl
  · rw [State.bgStageDot_of_tile (.inr ⟨stage, dot⟩), if_neg (by simp [stage])]
    exact State.tryPush_of_full full
  · rw [State.bgStageDot_of_tile (.inl stage), if_pos stage]
    exact State.tryPush_of_full full

end Sys2Proof.Machine
end

section
/-! PROOFS. The push of a tile row, the entry of the window (41_bg_fetcher.md R161, R162, R168 to R170) and the Mixer
(43_pixel_mixer.md R210 to R216). -/

namespace Sys2Proof.Machine

/-! ### The push -/

/-- A row of eight color indices, flipped or not, lane by lane (R104). -/
theorem flippedRow_getElem? (lo hi : Byte) (flip : Bool) {i : Nat} (hi8 : i < 8) :
    (if flip then flipRow (decodeRow lo hi) else decodeRow lo hi)[i]? = some (rowPixel lo hi (if flip then 7 - i else i)) := by
  cases flip with
  | false => exact decodeRow_getElem? lo hi hi8
  | true =>
    have lane := reverse_getElem?_seven_sub (decodeRow_length lo hi) (i := 7 - i) (by omega)
    rw [show 7 - (7 - i) = i by omega, decodeRow_getElem? lo hi (by omega)] at lane
    exact lane

/-- The sub-line a push decodes, after the vertical flip (R169). -/
def State.pushLine (s : State) : Nat := if s.cfg.cgbMode && s.bg.tileAttr.getLsbD 6 then 7 - s.subLine else s.subLine

theorem State.pushRow_getElem? (s : State) {i : Nat} (hi8 : i < 8) : s.pushRow[i]? =
    some (rowPixel (s.bg.tileBytes.getD (2 * s.pushLine) 0) (s.bg.tileBytes.getD (2 * s.pushLine + 1) 0)
      (if s.cfg.cgbMode && s.bg.tileAttr.getLsbD 5 then 7 - i else i)) :=
  flippedRow_getElem? _ _ (s.cfg.cgbMode && s.bg.tileAttr.getLsbD 5) hi8

theorem State.subLine_eq (s : State) : s.subLine =
    if s.bg.inWindow then s.ctl.winLine.toNat % 8 else (s.ctl.ly.toNat + s.reg.scy.toNat) % 256 % 8 := by
  rw [← show (s.ctl.ly + s.reg.scy).toNat = (s.ctl.ly.toNat + s.reg.scy.toNat) % 256 from BitVec.toNat_add _ _]
  rfl

theorem mapAttrPal_toNat (attr : Byte) : (mapAttrPal attr).toNat = attr.toNat % 8 := by
  rw [mapAttrPal, BitVec.extractLsb'_toNat]; rfl

theorem State.eq_bgPixel {s : State} {p : Pixel} {c : ColorIndex} (color : p.color = c)
    (pal : p.pal = if s.cfg.cgbMode then mapAttrPal s.bg.tileAttr else 0#3) (sprite : p.isSprite = false)
    (behind : p.bgOverObj = false) (prio : p.bgToOam = (s.cfg.cgbMode && s.bg.tileAttr.getLsbD 7)) (key : p.key = 0) :
    p = s.bgPixel c := by
  cases p
  dsimp only at color pal sprite behind prio key
  subst color pal sprite behind prio key
  rfl

/-- A pixel list that has a push's pixels lane by lane is what the push enqueues (R169). -/
theorem State.pushPixels_eq {s : State} {px : List Pixel} (length : px.length = 8)
    (lane : ∀ i < 8, px[i]? = (s.pushRow[i]?).map s.bgPixel) : px = s.pushRow.map s.bgPixel := by
  refine List.ext_getElem? fun i => ?_
  rw [List.getElem?_map]
  by_cases hi8 : i < 8
  · exact lane i hi8
  · rw [List.getElem?_eq_none (by omega), List.getElem?_eq_none (by simp; omega)]
    rfl

theorem State.tryPush_of_room {s : State} (room : s.bg.queue.length ≤ 8) : s.tryPush = { s with bg := { s.bg with
    stage := .getTile
    stageDot := 0
    fetchX := s.bg.fetchX + 1
    discardPending := false
    queue := if s.bg.discardPending then (s.bg.queue ++ s.pushRow.map s.bgPixel).drop (s.reg.scx.toNat % 8)
      else s.bg.queue ++ s.pushRow.map s.bgPixel } } := by
  rw [tryPush_frame, State.tryPush_bg_of_room room]
  unfold State.discardCount
  cases s.bg.discardPending <;> rfl

/-- Settles O36 (R168 to R170). -/
theorem pushEnqueuesTileRow : Obligations.PushEnqueuesTileRow := by
  unfold Obligations.PushEnqueuesTileRow
  intro s sub px stays stall stage room bytes hsub length lanes
  have pixels : px = s.pushRow.map s.bgPixel := by
    refine State.pushPixels_eq length fun i hi8 => ?_
    obtain ⟨p, lo, hi, hp, hlo, hhi, color, pal, sprite, behind, prio, key⟩ := lanes i hi8 _ _ rfl rfl
    have line : (if (s.cfg.cgbMode && s.bg.tileAttr.getLsbD 6) = true then 7 - sub else sub) = s.pushLine := by
      rw [hsub, ← State.subLine_eq]; rfl
    rw [line] at hlo hhi
    rw [hp, State.pushRow_getElem? s hi8, List.getD_eq_getElem?_getD, List.getD_eq_getElem?_getD, hlo, hhi]
    refine congrArg some ?_
    refine State.eq_bgPixel ?_ ?_ sprite behind prio key
    · rw [← BitVec.toNat_inj, color]; exact (rowPixel_toNat _ _ _).symm
    · rw [← BitVec.toNat_inj, pal]
      split_ifs
      · exact (mapAttrPal_toNat _).symm
      · rfl
  rw [State.bgStep_of_stays stays stall, State.bgStageDot_of_tile stage, pixels]
  rcases stage with asleep | ⟨last, -⟩
  · rw [if_pos asleep, State.tryPush_of_room room]
  · rw [if_neg (by simp [last])]
    exact State.tryPush_of_room (s := { s with bg := { s.bg with stage := .sleep, stageDot := 0 } }) room

/-! ### The entry of the window -/

/-- Settles O37 (R161, R162). -/
theorem windowEntryRestartsFetcher : Obligations.WindowEntryRestartsFetcher := by
  unfold Obligations.WindowEntryRestartsFetcher
  intro s outside enabled triggerY triggerX stall
  have enters : s.entersWindow = true := by simp [State.entersWindow, State.winEn, outside, enabled, triggerY, triggerX]
  have stalls : s.windowEntryStalls = true ↔ s.lx = 0 ∧ s.reg.scx.toNat % 8 ≠ 0 := by
    simp [State.windowEntryStalls, State.fineScroll]
  unfold State.bgStep State.windowEntryCheck State.enterWindow
  rw [if_pos enters]
  by_cases costs : s.lx = 0 ∧ s.reg.scx.toNat % 8 ≠ 0
  · rw [if_pos (stalls.2 costs), if_pos costs]
    simp [stall, State.penalty]
  · rw [if_neg (mt stalls.1 costs), if_neg costs]
    simp [stall, State.bgStageDot]

/-! ### The Mixer -/

theorem State.mixStep_of_few {s : State} (few : s.bg.queue.length ≤ 8) : s.mixStep = s := by
  have mix := s.mixStep_cases
  generalize s.mixStep = t at mix ⊢
  cases mix with
  | starved _ => rfl
  | pops _ _ _ many => omega

theorem State.mixStep_of_many {s : State} (many : 8 < s.bg.queue.length) :
    ∃ b rest, s.bg.queue = b :: rest ∧ s.mixStep = s.mixPixel b rest := by
  have mix := s.mixStep_cases
  generalize s.mixStep = t at mix ⊢
  cases mix with
  | starved few => omega
  | pops b rest queue _ => exact ⟨b, rest, queue, rfl⟩

/-- Settles O45 (R210, R215, R216). -/
theorem mixerPopsAboveEight : Obligations.MixerPopsAboveEight := by
  unfold Obligations.MixerPopsAboveEight
  refine fun s => ⟨State.mixStep_of_few, fun many => ?_⟩
  obtain ⟨b, rest, queue, mixed⟩ := State.mixStep_of_many many
  refine ⟨b, rest, queue, ?_, fun y x cell => State.mixStep_fbCell cell, fun p a => ?_, ?_⟩
  · rw [mixed]
    exact (s.fbCell_fbWrite s.ctl.ly.toNat s.lx _ _ _).trans (if_pos rfl)
  · rw [mixed]
    exact s.peek_fbWrite s.ctl.ly.toNat s.lx _ p a
  · rw [mixed, List.drop_one]; rfl

/-! ### The palettes -/

/-- Two bits of a palette byte (R109). -/
theorem shade_toNat (p : Byte) (c : ColorIndex) : (shade p c).toNat = p.toNat / 4 ^ c.toNat % 4 := by
  rw [shade, BitVec.extractLsb'_toNat, Nat.shiftRight_eq_div_pow, Nat.pow_mul]

theorem shadeColor_toNat (p : Byte) (c : ColorIndex) : ((shade p c).setWidth 15).toNat = p.toNat / 4 ^ c.toNat % 4 := by
  have range := (shade p c).isLt
  rw [BitVec.toNat_setWidth, Nat.mod_eq_of_lt (by omega), shade_toNat]

/-- A palette entry is little-endian, its bit 15 dropped (R110). -/
theorem paletteColor_toNat (low high : Byte) : (paletteColor low high).toNat = (256 * high.toNat + low.toNat) % 2 ^ 15 := by
  rw [paletteColor, BitVec.extractLsb'_toNat, bitVec_append_toNat, Nat.mul_comm]; rfl

/-- Settles O47 (R109, R110, R212 to R214). -/
theorem paletteLookup : Obligations.PaletteLookup := by
  unfold Obligations.PaletteLookup
  refine ⟨rfl, fun s p => ⟨fun mono => ⟨?_, ?_⟩, ?_⟩⟩
  · rw [State.bgColor, if_neg (by simp [mono]), shadeColor_toNat]
  · rw [State.objColor, if_neg (by simp [mono]), shadeColor_toNat]
  · rintro color e rfl
    have pal := p.pal.isLt
    have index := p.color.isLt
    refine ⟨by omega, ?_, ?_⟩
    · rw [State.bgColor, if_pos color, State.paletteEntry, paletteColor_toNat]; rfl
    · rw [State.objColor, if_pos color, State.paletteEntry, paletteColor_toNat]; rfl

end Sys2Proof.Machine
end

section
/-! PROOFS. What pixel delivery merges into the sprite queue (42_sprite_fetcher.md R194 to R197), slot by slot. -/

namespace Sys2Proof.Machine

/-! ### The row of the record -/

/-- The row of a sprite on a line, as natural numbers (R194). -/
theorem spriteRow_eq (ly y : Byte) (h : Nat) (flip : Bool) : spriteRow ly y h flip =
    if flip then h - 1 - (ly.toNat + 16 + (256 - y.toNat)) % 256 % h else (ly.toNat + 16 + (256 - y.toNat)) % 256 % h := by
  have row : (ly + 16#8 - y).toNat = (ly.toNat + 16 + (256 - y.toNat)) % 256 := by
    have := y.isLt
    rw [BitVec.toNat_sub, BitVec.toNat_add, BitVec.toNat_ofNat]; omega
  rw [← row]; rfl

/-- The address of a sprite row's low plane byte (R194). -/
theorem spriteRowAddr_eq (tile : Byte) {h r : Nat} (hh : h = 16 ∨ h = 8) (hr : r < h) :
    spriteRowAddr (spriteTileRow tile h r).1 (spriteTileRow tile h r).2 =
      if h = 16 then 0x8000 + 16 * (tile.toNat / 2 * 2 + r / 8) + 2 * (r % 8) else 0x8000 + 16 * tile.toNat + 2 * r := by
  unfold spriteRowAddr
  obtain rfl | rfl := hh
  · obtain ⟨tileNat, rowNat⟩ := spriteTileRow_of_tall tile hr
    rw [tileNat, rowNat]; rfl
  · rfl

theorem State.objHeight_eq (s : State) : s.objHeight = 16 ∨ s.objHeight = 8 := by
  unfold State.objHeight; split_ifs <;> simp

theorem State.spriteRowBytes_eq (s : State) (o : OamRecord) {h r base : Nat} {p : Space} (hh : h = s.objHeight)
    (hr : r = spriteRow s.ctl.ly o.y h (oamAttrYflip o.attr))
    (hbase : base = if h = 16 then 0x8000 + 16 * (o.tile.toNat / 2 * 2 + r / 8) + 2 * (r % 8) else 0x8000 + 16 * o.tile.toNat + 2 * r)
    (hp : p = if s.cfg.cgbMode && o.attr.getLsbD 3 then .vram1 else .vram0) :
    s.spriteRowBytes o = (s.peek p base, s.peek p (base + 1)) := by
  have height : h = 16 ∨ h = 8 := hh ▸ s.objHeight_eq
  have row : r < h := hr ▸ spriteRow_lt _ _ (by omega) _
  rw [hp, ← vramSpace_of_attr, hbase, ← spriteRowAddr_eq o.tile height row, hr, hh]
  rfl

/-! ### The pixels of the record -/

theorem rowPixel_eq (lo hi : Byte) (c : Nat) :
    rowPixel lo hi c = BitVec.ofNat 2 (2 * (hi.toNat / 2 ^ (7 - c) % 2) + lo.toNat / 2 ^ (7 - c) % 2) := by
  rw [← rowPixel_toNat, BitVec.ofNat_toNat, BitVec.setWidth_eq]

/-- The palette selector of a sprite's pixels (R108). -/
theorem State.objPal_eq (s : State) (attr : Byte) :
    s.objPal attr = if s.cfg.cgbMode then BitVec.ofNat 3 attr.toNat else (if attr.getLsbD 4 then 1#3 else 0#3) := by
  have color : oamAttrCgbPal attr = BitVec.ofNat 3 attr.toNat := by
    rw [← BitVec.toNat_inj, oamAttrCgbPal, BitVec.extractLsb'_toNat, BitVec.toNat_ofNat]; rfl
  have mono : (oamAttrDmgPal attr).setWidth 3 = if attr.getLsbD 4 then 1#3 else 0#3 := by
    have bit : oamAttrDmgPal attr = BitVec.ofBool (attr.getLsbD 4) := by
      ext i hi
      obtain rfl : i = 0 := by omega
      simp [oamAttrDmgPal]
    rw [bit]
    cases attr.getLsbD 4 <;> rfl
  unfold State.objPal
  rw [color, mono]

theorem State.spritePixels_getElem? (s : State) (o : OamRecord) {j : Nat} (hj : j < 8) : (s.spritePixels o)[j]? =
    some (s.objPixel o.attr (rowPixel (s.spriteRowBytes o).1 (s.spriteRowBytes o).2 (if o.attr.getLsbD 5 then 7 - j else j))) := by
  unfold State.spritePixels
  dsimp only
  rw [List.getElem?_map, show oamAttrXflip o.attr = o.attr.getLsbD 5 from rfl, flippedRow_getElem? _ _ _ hj]
  rfl

@[simp] theorem State.spritePixels_length (s : State) (o : OamRecord) : (s.spritePixels o).length = 8 := by
  unfold State.spritePixels; dsimp only; split_ifs <;> simp [flipRow]

@[simp] theorem State.incomingPixels_length (s : State) (o : OamRecord) : (s.incomingPixels o).length = 8 := by
  simp [State.incomingPixels, offScreen]

/-- The incoming pixel of a slot: the part left of the screen is dropped (R196). -/
theorem State.incomingPixels_getElem? (s : State) (o : OamRecord) {i j : Nat} (hi : i < 8) (hj : j = i + (8 - o.x.toNat)) :
    (s.incomingPixels o)[i]? = some (s.objPixel o.attr (if j < 8 then
      rowPixel (s.spriteRowBytes o).1 (s.spriteRowBytes o).2 (if o.attr.getLsbD 5 then 7 - j else j) else 0#2)) := by
  have dropped : ((s.spritePixels o).drop (offScreen o.x)).length = 8 - offScreen o.x := by simp
  unfold State.incomingPixels
  by_cases onScreen : j < 8
  · rw [List.getElem?_append_left (by rw [dropped, offScreen]; omega), List.getElem?_drop, if_pos onScreen,
      show offScreen o.x + i = j by rw [hj, offScreen, Nat.add_comm], State.spritePixels_getElem? s o onScreen]
  · rw [List.getElem?_append_right (by rw [dropped, offScreen]; omega), if_neg onScreen, List.getElem?_replicate,
      if_pos (by rw [dropped, offScreen]; omega)]

/-! ### The merge -/

theorem padQueue_getElem? {q : List Pixel} (h : q.length ≤ 8) {i : Nat} (hi : i < 8) :
    (padQueue q)[i]? = some ((q[i]?).getD Pixel.transparent) := by
  unfold padQueue
  by_cases inside : i < q.length
  · rw [List.getElem?_append_left inside, List.getElem?_eq_getElem inside]; rfl
  · rw [List.getElem?_append_right (by omega), List.getElem?_replicate, if_pos (by simp; omega), List.getElem?_eq_none (by omega)]
    rfl

theorem mergeQueue_eq_zipWith {qs ps : List Pixel} (h : qs.length = ps.length) :
    mergeQueue qs ps = List.zipWith mergePixel qs ps := by
  induction qs generalizing ps with
  | nil =>
    obtain rfl := List.length_eq_zero_iff.1 h.symm
    rfl
  | cons q qs ih =>
    cases ps with
    | nil => simp at h
    | cons p ps => rw [mergeQueue, List.zipWith_cons_cons, ih (by simpa using h)]

/-- The eight slots delivery leaves (R197). -/
theorem mergeQueue_padQueue {q ps : List Pixel} (hq : q.length ≤ 8) (hps : ps.length = 8) :
    (mergeQueue (padQueue q) ps).length = 8 ∧ ∀ (i : Nat) (p : Pixel), i < 8 → ps[i]? = some p →
      (mergeQueue (padQueue q) ps)[i]? = some (mergePixel ((q[i]?).getD Pixel.transparent) p) := by
  refine ⟨(mergeQueue_length _ _).trans (padQueue_length hq), fun i p hi hp => ?_⟩
  rw [mergeQueue_eq_zipWith (by rw [padQueue_length hq, hps]), List.getElem?_zipWith, padQueue_getElem? hq hi, hp]

/-- Settles O44 (R194 to R197). -/
theorem deliveryMergesEightPixels : Obligations.DeliveryMergesEightPixels := by
  unfold Obligations.DeliveryMergesEightPixels
  rintro s e y x tile attr h r0 r lo hi base entry room rfl rfl rfl rfl hh rfl hr hbase hlo hhi
  have idx : s.currentIdx = e.idx := by unfold State.currentIdx; rw [entry]; rfl
  have queue : s.deliver.sp.queue = mergeQueue (padQueue s.sp.queue) (s.incomingPixels (s.oamRecord e.idx)) := by rw [← idx]; rfl
  have bytes : s.spriteRowBytes (s.oamRecord e.idx) = (lo, hi) := by
    rw [hlo, hhi]
    exact s.spriteRowBytes_eq (s.oamRecord e.idx) hh (hr.trans (spriteRow_eq _ _ _ _).symm) hbase rfl
  obtain ⟨length, slot⟩ := mergeQueue_padQueue room (s.incomingPixels_length (s.oamRecord e.idx))
  rw [queue]
  refine ⟨length, ?_⟩
  rintro i hi8 c old new rfl rfl rfl
  rw [slot i _ hi8 (s.incomingPixels_getElem? (s.oamRecord e.idx) hi8 rfl), bytes, rowPixel_eq, State.objPixel, State.objPal_eq]
  rfl

end Sys2Proof.Machine
end

section
/-! PROOFS. The sprites of a line (42_sprite_fetcher.md R180 to R183): the first ten records on it, and their order. -/

namespace Sys2Proof.Machine

/-! ### The first of a rising list -/

/-- In a strictly rising list the first `k` are those with fewer than `k` before them. -/
theorem mem_take_iff_of_rising {l : List Nat} (rising : l.Pairwise (· < ·)) (k n : Nat) : n ∈ l.take k ↔
    n ∈ l ∧ ∀ earlier : List Nat, earlier.Nodup → (∀ m ∈ earlier, m ∈ l ∧ m < n) → earlier.length < k := by
  have split : l.take k ++ l.drop k = l := List.take_append_drop k l
  have apart : ∀ m ∈ l.take k, ∀ n ∈ l.drop k, m < n := (List.pairwise_append.1 (by rwa [split])).2.2
  constructor
  · refine fun first => ⟨List.mem_of_mem_take first, fun earlier nodup before => ?_⟩
    have inside : n :: earlier ⊆ l.take k := by
      refine List.cons_subset.2 ⟨first, fun m hm => ?_⟩
      obtain ⟨member, less⟩ := before m hm
      rw [← split, List.mem_append] at member
      exact member.resolve_right fun late => absurd (apart n first m late) (by omega)
    have distinct : (n :: earlier).Nodup := List.nodup_cons.2 ⟨fun hn => absurd (before n hn).2 (by omega), nodup⟩
    have length := (distinct.subperm inside).length_le
    simp at length; omega
  · rintro ⟨member, few⟩
    rw [← split, List.mem_append] at member
    refine member.resolve_right fun late => ?_
    have nodup : (l.take k).Nodup := (rising.sublist (List.take_sublist k l)).imp (by omega)
    have := few (l.take k) nodup fun m hm => ⟨List.mem_of_mem_take hm, apart m hm n late⟩
    have := List.length_pos_of_mem late
    simp at *; omega

/-! ### The records on the line -/

/-- The records on the line, in OAM order (R180, R181). -/
def State.lineRecords (s : State) : List Nat :=
  (List.range 40).filter fun n => spriteMatches s.ctl.ly (s.oamRead (4 * n)) s.objHeight

theorem State.foundSprites_eq (s : State) : s.foundSprites = (s.lineRecords.take 10).map s.foundSprite := rfl

theorem State.mem_lineRecords (s : State) (n : Nat) : n ∈ s.lineRecords ↔ n < 40 ∧
    (s.oamRead (4 * n)).toNat ≤ s.ctl.ly.toNat + 16 ∧
    s.ctl.ly.toNat + 16 < (s.oamRead (4 * n)).toNat + (if s.reg.lcdc.getLsbD 2 then 16 else 8) := by
  rw [State.lineRecords, List.mem_filter, List.mem_range, spriteMatches, decide_eq_true_eq]
  rfl

theorem State.lineRecords_rising (s : State) : s.lineRecords.Pairwise (· < ·) := List.pairwise_lt_range.filter _

/-- Screen-X on integers (R182). -/
theorem screenX_eq (x : Byte) (n : Nat) : n = screenX x ↔ (n : Int) = min 160 (max 0 ((x.toNat : Int) - 8)) := by
  unfold screenX; omega

theorem State.mem_foundSprites (s : State) (e : LineSprite) : e ∈ s.foundSprites ↔
    e.idx ∈ s.lineRecords.take 10 ∧ e.done = false ∧ e.sx = screenX (s.oamRead (4 * e.idx + 1)) := by
  rw [State.foundSprites_eq, List.mem_map]
  constructor
  · rintro ⟨n, hn, rfl⟩
    exact ⟨hn, rfl, rfl⟩
  · rintro ⟨hn, done, sx⟩
    refine ⟨e.idx, hn, ?_⟩
    cases e
    dsimp only at done sx
    subst done sx
    rfl

theorem State.foundSprites_rising (s : State) : s.foundSprites.Pairwise fun a b => a.idx < b.idx := by
  rw [State.foundSprites_eq, List.pairwise_map]
  exact s.lineRecords_rising.sublist (List.take_sublist 10 _)

/-! ### The monochrome order -/

/-- The monochrome sort is insertion sort by `spriteBefore` (R183). -/
theorem sortSprites_eq (tb : TieBreak) (l : List LineSprite) :
    sortSprites tb l = l.insertionSort fun a b => spriteBefore tb a b = true := by
  have insert : ∀ a l, insertSprite tb a l = l.orderedInsert (fun a b => spriteBefore tb a b = true) a := by
    intro a l
    induction l with
    | nil => rfl
    | cons b l ih => rw [insertSprite, List.orderedInsert_cons, ih]
  induction l with
  | nil => rfl
  | cons a l ih => rw [sortSprites, insert, ih]; rfl

/-- Entry `a` comes before entry `b`, or at its place (R183). -/
theorem spriteBefore_iff (tb : TieBreak) (a b : LineSprite) : spriteBefore tb a b = true ↔
    a.sx < b.sx ∨ (a.sx = b.sx ∧ match tb with
      | .lowerIndexFirst => a.idx ≤ b.idx
      | .higherIndexFirst => b.idx ≤ a.idx) := by
  cases tb <;> simp [spriteBefore]

theorem sortSprites_sorted (tb : TieBreak) (l : List LineSprite) :
    (sortSprites tb l).Pairwise fun a b => spriteBefore tb a b = true := by
  have total : Std.Total fun a b => spriteBefore tb a b = true :=
    ⟨fun a b => by rw [spriteBefore_iff, spriteBefore_iff]; cases tb <;> dsimp only <;> omega⟩
  have trans : IsTrans LineSprite fun a b => spriteBefore tb a b = true :=
    ⟨fun a b c => by rw [spriteBefore_iff, spriteBefore_iff, spriteBefore_iff]; cases tb <;> dsimp only <;> omega⟩
  rw [sortSprites_eq]
  exact List.pairwise_insertionSort _ l

/-- Settles O28 (R180 to R183). -/
theorem lineSpritesFoundAndOrdered : Obligations.LineSpritesFoundAndOrdered := by
  unfold Obligations.LineSpritesFoundAndOrdered
  rintro s onLine l hline rfl
  have onLine_iff : ∀ n, n ∈ s.lineRecords ↔ onLine n := fun n => (s.mem_lineRecords n).trans (hline n).symm
  have perm := orderSprites_perm s.cfg s.foundSprites
  have distinct : (orderSprites s.cfg s.foundSprites).Pairwise fun a b => a.idx ≠ b.idx :=
    (perm.pairwise_iff fun h => h.symm).2 (s.foundSprites_rising.imp (by omega))
  refine ⟨perm.length_eq.trans_le s.foundSprites_bounds.1, fun e => ?_, fun color => ?_, fun mono tie => ?_, fun mono tie => ?_⟩
  · rw [perm.mem_iff, State.mem_foundSprites, mem_take_iff_of_rising s.lineRecords_rising, screenX_eq]
    simp only [onLine_iff]
    tauto
  · rw [orderSprites, if_pos color]
    exact s.foundSprites_rising
  all_goals
    have sorted := sortSprites_sorted s.cfg.oamTieBreak s.foundSprites
    rw [orderSprites, if_neg (by simp [mono])] at distinct ⊢
    refine (sorted.and distinct).imp fun {a b} ⟨before, other⟩ => ?_
    rw [spriteBefore_iff, tie] at before
    dsimp only at before
    omega

end Sys2Proof.Machine
end
